-- ==== Sys2Proof/Word.lean ====
section
/-! DEFINITION. The word types of the block: bytes of the source, and the 32-bit fields DISP and IMM (10_state.md R61, R62). -/

namespace Sys2Proof

/-- One byte of the byte source (20_memory.md R81). -/
abbrev Byte := BitVec 8

/-- The 32-bit immediate and displacement fields (10_state.md R61, R62). -/
abbrev Word := BitVec 32

end Sys2Proof
end

