-- ==== Sys2Proof/Config.lean ====
section
/-! DEFINITION. What is fixed for the block, and the defaults of the OPEN parameters (00_scope.md R11; 92_eei_decisions.md, last table).
The parameters themselves are arguments of RESET (Machine/Reset.lean) and stand in State.
The spec leaves no value free (93_implementation_defined.md, Checks for a reader: no item has the treatment "any value"),
so there is no opaque constant here. -/

namespace Sys2Proof

/-- FIXED_IMM_EXT, the extension of the fixed-width immediates into IMM (00_scope.md R11, D9). -/
inductive ImmExt where
  | sign
  | zero
  deriving DecidableEq, Repr

namespace Config

/-- INIT_PE, default 1 (D6). -/
def initPe : Nat := 1

/-- INIT_D, default 1 (D6). -/
def initD : Nat := 1

/-- INIT_POS, default 0 (D6). -/
def initPos : Nat := 0

/-- FIXED_IMM_EXT, default SIGN (D9). -/
def immExt : ImmExt := .sign

/-- VBASE, default 0 (D21). -/
def vbase : Nat := 0

/-- MAX_TAGS, fixed by 00 §3 (00_scope.md R11, 30_encoding.md R126). -/
def maxTags : Nat := 4

/-- The most bytes a DECODE reads after the prefixes (40_decode_pipeline.md R199). -/
def maxAfterPrefixes : Nat := 12

end Config
end Sys2Proof
end

