-- ==== Sys2Proof/Syntax.lean ====
section
/-! DEFINITION. The instructions as syntax. Instr has one constructor per row of opcode_table.json (30_encoding.md R131, section 10; the
forms tables of 41_arith.md to 47_flags_misc.md); a constructor's name is the row's mnemonic with the hexadecimal opcode byte, 0F
before it for a row behind the escape, and the group digit after it. An Insn is an instruction: a row with what its bytes after the
opcode say. A row's meaning reads those bytes from the byte source itself, as the hardware does (log entry 2). -/

namespace Sys2Proof

/-- The size classes (10_state.md R52). -/
inductive SizeClass where
  | none
  | byte
  | word
  | long
  | quad
  | full
  deriving DecidableEq, Repr

/-- The fields of a SIB byte (30_encoding.md R120): the raw scale code, INDEX and BASE. -/
structure Sib where
  code : BitVec 2
  index : BitVec 3
  base : BitVec 3
  deriving DecidableEq, Repr

/-- An addressing form: MOD and RM of the ModR/M byte (30_encoding.md R119), the SIB byte and the displacement's bytes as an
unsigned little-endian value. A form without a SIB byte or without a displacement has zero there (WellFormed.lean). -/
structure Rm where
  mod : BitVec 2
  rm : BitVec 3
  sib : Sib
  disp : Word
  deriving DecidableEq, Repr

/-- One constructor per row of opcode_table.json. -/
inductive Instr where
  /-- `prefix.lock`: prefix byte f0; R165. -/
  | prefixLock
  /-- `prefix.repnz`: prefix byte f2; R165. -/
  | prefixRepnz
  /-- `prefix.repz`: prefix byte f3; R165. -/
  | prefixRepz
  /-- `prefix.es`: prefix byte 26; R165. -/
  | prefixEs
  /-- `prefix.cs`: prefix byte 2e; R165. -/
  | prefixCs
  /-- `prefix.ss`: prefix byte 36; R165. -/
  | prefixSs
  /-- `prefix.ds`: prefix byte 3e; R165. -/
  | prefixDs
  /-- `prefix.fs`: prefix byte 64; R165. -/
  | prefixFs
  /-- `prefix.gs`: prefix byte 65; R165. -/
  | prefixGs
  /-- `prefix.opsize`: prefix byte 66; R165. -/
  | prefixOpsize
  /-- `prefix.adsize`: prefix byte 67; R165. -/
  | prefixAdsize
  /-- `escape.0f`: the two-byte escape 0f; R169. -/
  | escape0F
  /-- `add`: 00 /r; R301. -/
  | add00
  /-- `add`: 01 /r; R301. -/
  | add01
  /-- `add`: 02 /r; R301. -/
  | add02
  /-- `add`: 03 /r; R301. -/
  | add03
  /-- `add`: 04 ib; R301. -/
  | add04
  /-- `add`: 05 iv; R301. -/
  | add05
  /-- `or`: 08 /r; R302. -/
  | or08
  /-- `or`: 09 /r; R302. -/
  | or09
  /-- `or`: 0a /r; R302. -/
  | or0A
  /-- `or`: 0b /r; R302. -/
  | or0B
  /-- `or`: 0c ib; R302. -/
  | or0C
  /-- `or`: 0d iv; R302. -/
  | or0D
  /-- `adc`: 10 /r; R303. -/
  | adc10
  /-- `adc`: 11 /r; R303. -/
  | adc11
  /-- `adc`: 12 /r; R303. -/
  | adc12
  /-- `adc`: 13 /r; R303. -/
  | adc13
  /-- `adc`: 14 ib; R303. -/
  | adc14
  /-- `adc`: 15 iv; R303. -/
  | adc15
  /-- `sbb`: 18 /r; R304. -/
  | sbb18
  /-- `sbb`: 19 /r; R304. -/
  | sbb19
  /-- `sbb`: 1a /r; R304. -/
  | sbb1A
  /-- `sbb`: 1b /r; R304. -/
  | sbb1B
  /-- `sbb`: 1c ib; R304. -/
  | sbb1C
  /-- `sbb`: 1d iv; R304. -/
  | sbb1D
  /-- `and`: 20 /r; R305. -/
  | and20
  /-- `and`: 21 /r; R305. -/
  | and21
  /-- `and`: 22 /r; R305. -/
  | and22
  /-- `and`: 23 /r; R305. -/
  | and23
  /-- `and`: 24 ib; R305. -/
  | and24
  /-- `and`: 25 iv; R305. -/
  | and25
  /-- `sub`: 28 /r; R306. -/
  | sub28
  /-- `sub`: 29 /r; R306. -/
  | sub29
  /-- `sub`: 2a /r; R306. -/
  | sub2A
  /-- `sub`: 2b /r; R306. -/
  | sub2B
  /-- `sub`: 2c ib; R306. -/
  | sub2C
  /-- `sub`: 2d iv; R306. -/
  | sub2D
  /-- `xor`: 30 /r; R307. -/
  | xor30
  /-- `xor`: 31 /r; R307. -/
  | xor31
  /-- `xor`: 32 /r; R307. -/
  | xor32
  /-- `xor`: 33 /r; R307. -/
  | xor33
  /-- `xor`: 34 ib; R307. -/
  | xor34
  /-- `xor`: 35 iv; R307. -/
  | xor35
  /-- `cmp`: 38 /r; R308. -/
  | cmp38
  /-- `cmp`: 39 /r; R308. -/
  | cmp39
  /-- `cmp`: 3a /r; R308. -/
  | cmp3A
  /-- `cmp`: 3b /r; R308. -/
  | cmp3B
  /-- `cmp`: 3c ib; R308. -/
  | cmp3C
  /-- `cmp`: 3d iv; R308. -/
  | cmp3D
  /-- `push`: 06; R359. -/
  | push06
  /-- `push`: 0e; R359. -/
  | push0E
  /-- `push`: 16; R359. -/
  | push16
  /-- `push`: 1e; R359. -/
  | push1E
  /-- `pop`: 07; R360. -/
  | pop07
  /-- `pop`: 17; R360. -/
  | pop17
  /-- `pop`: 1f; R360. -/
  | pop1F
  /-- `daa`: 27; R309. -/
  | daa27
  /-- `das`: 2f; R310. -/
  | das2F
  /-- `aaa`: 37; R311. -/
  | aaa37
  /-- `aas`: 3f; R312. -/
  | aas3F
  /-- `inc`: 40+r; R313. -/
  | inc40
  /-- `dec`: 48+r; R314. -/
  | dec48
  /-- `push`: 50+r; R359. -/
  | push50
  /-- `pop`: 58+r; R360. -/
  | pop58
  /-- `pusha`: 60; R361. -/
  | pusha60
  /-- `popa`: 61; R362. -/
  | popa61
  /-- `bound`: 62 /r; R432. -/
  | bound62
  /-- `arpl`: 63 /r; R433. -/
  | arpl63
  /-- `push`: 68 iv; R359. -/
  | push68
  /-- `imul`: 69 /r iv; R315. -/
  | imul69
  /-- `push`: 6a ib(s); R359. -/
  | push6A
  /-- `imul`: 6b /r ib(s); R315. -/
  | imul6B
  /-- `ins`: 6c; R423. -/
  | ins6C
  /-- `ins`: 6d; R423. -/
  | ins6D
  /-- `outs`: 6e; R424. -/
  | outs6E
  /-- `outs`: 6f; R424. -/
  | outs6F
  /-- `jo`: 70 cb; R393. -/
  | jo70
  /-- `jno`: 71 cb; R394. -/
  | jno71
  /-- `jb`: 72 cb; R395. -/
  | jb72
  /-- `jae`: 73 cb; R396. -/
  | jae73
  /-- `je`: 74 cb; R397. -/
  | je74
  /-- `jne`: 75 cb; R398. -/
  | jne75
  /-- `jbe`: 76 cb; R399. -/
  | jbe76
  /-- `ja`: 77 cb; R400. -/
  | ja77
  /-- `js`: 78 cb; R401. -/
  | js78
  /-- `jns`: 79 cb; R402. -/
  | jns79
  /-- `jp`: 7a cb; R403. -/
  | jp7A
  /-- `jnp`: 7b cb; R404. -/
  | jnp7B
  /-- `jl`: 7c cb; R405. -/
  | jl7C
  /-- `jge`: 7d cb; R406. -/
  | jge7D
  /-- `jle`: 7e cb; R407. -/
  | jle7E
  /-- `jg`: 7f cb; R408. -/
  | jg7F
  /-- `dispatch.group1`: 80 /r, the group-dispatch entry; R174. -/
  | dispatch80
  /-- `add`: 80 /0 ib; R301. -/
  | add80_0
  /-- `or`: 80 /1 ib; R302. -/
  | or80_1
  /-- `adc`: 80 /2 ib; R303. -/
  | adc80_2
  /-- `sbb`: 80 /3 ib; R304. -/
  | sbb80_3
  /-- `and`: 80 /4 ib; R305. -/
  | and80_4
  /-- `sub`: 80 /5 ib; R306. -/
  | sub80_5
  /-- `xor`: 80 /6 ib; R307. -/
  | xor80_6
  /-- `cmp`: 80 /7 ib; R308. -/
  | cmp80_7
  /-- `dispatch.group1`: 81 /r, the group-dispatch entry; R174. -/
  | dispatch81
  /-- `add`: 81 /0 iv; R301. -/
  | add81_0
  /-- `or`: 81 /1 iv; R302. -/
  | or81_1
  /-- `adc`: 81 /2 iv; R303. -/
  | adc81_2
  /-- `sbb`: 81 /3 iv; R304. -/
  | sbb81_3
  /-- `and`: 81 /4 iv; R305. -/
  | and81_4
  /-- `sub`: 81 /5 iv; R306. -/
  | sub81_5
  /-- `xor`: 81 /6 iv; R307. -/
  | xor81_6
  /-- `cmp`: 81 /7 iv; R308. -/
  | cmp81_7
  /-- `dispatch.group1`: 82 /r, the group-dispatch entry; R174. -/
  | dispatch82
  /-- `add`: 82 /0 ib; R301. -/
  | add82_0
  /-- `or`: 82 /1 ib; R302. -/
  | or82_1
  /-- `adc`: 82 /2 ib; R303. -/
  | adc82_2
  /-- `sbb`: 82 /3 ib; R304. -/
  | sbb82_3
  /-- `and`: 82 /4 ib; R305. -/
  | and82_4
  /-- `sub`: 82 /5 ib; R306. -/
  | sub82_5
  /-- `xor`: 82 /6 ib; R307. -/
  | xor82_6
  /-- `cmp`: 82 /7 ib; R308. -/
  | cmp82_7
  /-- `dispatch.group1`: 83 /r, the group-dispatch entry; R174. -/
  | dispatch83
  /-- `add`: 83 /0 ib(s); R301. -/
  | add83_0
  /-- `or`: 83 /1 ib(s); R302. -/
  | or83_1
  /-- `adc`: 83 /2 ib(s); R303. -/
  | adc83_2
  /-- `sbb`: 83 /3 ib(s); R304. -/
  | sbb83_3
  /-- `and`: 83 /4 ib(s); R305. -/
  | and83_4
  /-- `sub`: 83 /5 ib(s); R306. -/
  | sub83_5
  /-- `xor`: 83 /6 ib(s); R307. -/
  | xor83_6
  /-- `cmp`: 83 /7 ib(s); R308. -/
  | cmp83_7
  /-- `test`: 84 /r; R316. -/
  | test84
  /-- `test`: 85 /r; R316. -/
  | test85
  /-- `xchg`: 86 /r; R363. -/
  | xchg86
  /-- `xchg`: 87 /r; R363. -/
  | xchg87
  /-- `mov`: 88 /r; R364. -/
  | mov88
  /-- `mov`: 89 /r; R364. -/
  | mov89
  /-- `mov`: 8a /r; R364. -/
  | mov8A
  /-- `mov`: 8b /r; R364. -/
  | mov8B
  /-- `mov`: 8c /r; R364. -/
  | mov8C
  /-- `lea`: 8d /r; R365. -/
  | lea8D
  /-- `mov`: 8e /r; R364. -/
  | mov8E
  /-- `dispatch.group1a`: 8f /r, the group-dispatch entry; R174. -/
  | dispatch8F
  /-- `pop`: 8f /0; R360. -/
  | pop8F_0
  /-- `nop`: 90; R466. -/
  | nop90
  /-- `xchg`: 91+r (91..97); R363. -/
  | xchg91
  /-- `cwde`: 98; R366. -/
  | cwde98
  /-- `cdq`: 99; R367. -/
  | cdq99
  /-- `fwait`: 9b; R467. -/
  | fwait9B
  /-- `pushf`: 9c; R468. -/
  | pushf9C
  /-- `popf`: 9d; R469. -/
  | popf9D
  /-- `sahf`: 9e; R470. -/
  | sahf9E
  /-- `lahf`: 9f; R471. -/
  | lahf9F
  /-- `mov`: a0 mo(ad); R364. -/
  | movA0
  /-- `mov`: a1 mo(ad); R364. -/
  | movA1
  /-- `mov`: a2 mo(ad); R364. -/
  | movA2
  /-- `mov`: a3 mo(ad); R364. -/
  | movA3
  /-- `movs`: a4; R425. -/
  | movsA4
  /-- `movs`: a5; R425. -/
  | movsA5
  /-- `cmps`: a6; R426. -/
  | cmpsA6
  /-- `cmps`: a7; R426. -/
  | cmpsA7
  /-- `test`: a8 ib; R316. -/
  | testA8
  /-- `test`: a9 iv; R316. -/
  | testA9
  /-- `stos`: aa; R427. -/
  | stosAA
  /-- `stos`: ab; R427. -/
  | stosAB
  /-- `lods`: ac; R428. -/
  | lodsAC
  /-- `lods`: ad; R428. -/
  | lodsAD
  /-- `scas`: ae; R429. -/
  | scasAE
  /-- `scas`: af; R429. -/
  | scasAF
  /-- `mov`: b0+r ib; R364. -/
  | movB0
  /-- `mov`: b8+r iv; R364. -/
  | movB8
  /-- `dispatch.group2`: c0 /r, the group-dispatch entry; R174. -/
  | dispatchC0
  /-- `rol`: c0 /0 ib; R327. -/
  | rolC0_0
  /-- `ror`: c0 /1 ib; R328. -/
  | rorC0_1
  /-- `rcl`: c0 /2 ib; R329. -/
  | rclC0_2
  /-- `rcr`: c0 /3 ib; R330. -/
  | rcrC0_3
  /-- `shl`: c0 /4 ib; R331. -/
  | shlC0_4
  /-- `shr`: c0 /5 ib; R332. -/
  | shrC0_5
  /-- `sar`: c0 /7 ib; R333. -/
  | sarC0_7
  /-- `dispatch.group2`: c1 /r, the group-dispatch entry; R174. -/
  | dispatchC1
  /-- `rol`: c1 /0 ib; R327. -/
  | rolC1_0
  /-- `ror`: c1 /1 ib; R328. -/
  | rorC1_1
  /-- `rcl`: c1 /2 ib; R329. -/
  | rclC1_2
  /-- `rcr`: c1 /3 ib; R330. -/
  | rcrC1_3
  /-- `shl`: c1 /4 ib; R331. -/
  | shlC1_4
  /-- `shr`: c1 /5 ib; R332. -/
  | shrC1_5
  /-- `sar`: c1 /7 ib; R333. -/
  | sarC1_7
  /-- `ret`: c2 iw; R409. -/
  | retC2
  /-- `ret`: c3; R409. -/
  | retC3
  /-- `les`: c4 /r; R368. -/
  | lesC4
  /-- `lds`: c5 /r; R369. -/
  | ldsC5
  /-- `dispatch.group11`: c6 /r, the group-dispatch entry; R174. -/
  | dispatchC6
  /-- `mov`: c6 /0 ib; R364. -/
  | movC6_0
  /-- `dispatch.group11`: c7 /r, the group-dispatch entry; R174. -/
  | dispatchC7
  /-- `mov`: c7 /0 iv; R364. -/
  | movC7_0
  /-- `leave`: c9; R370. -/
  | leaveC9
  /-- `retf`: ca iw; R410. -/
  | retfCA
  /-- `retf`: cb; R410. -/
  | retfCB
  /-- `int3`: cc; R411. -/
  | int3CC
  /-- `int`: cd ib; R412. -/
  | intCD
  /-- `into`: ce; R413. -/
  | intoCE
  /-- `iret`: cf; R414. -/
  | iretCF
  /-- `dispatch.group2`: d0 /r, the group-dispatch entry; R174. -/
  | dispatchD0
  /-- `rol`: d0 /0; R327. -/
  | rolD0_0
  /-- `ror`: d0 /1; R328. -/
  | rorD0_1
  /-- `rcl`: d0 /2; R329. -/
  | rclD0_2
  /-- `rcr`: d0 /3; R330. -/
  | rcrD0_3
  /-- `shl`: d0 /4; R331. -/
  | shlD0_4
  /-- `shr`: d0 /5; R332. -/
  | shrD0_5
  /-- `sar`: d0 /7; R333. -/
  | sarD0_7
  /-- `dispatch.group2`: d1 /r, the group-dispatch entry; R174. -/
  | dispatchD1
  /-- `rol`: d1 /0; R327. -/
  | rolD1_0
  /-- `ror`: d1 /1; R328. -/
  | rorD1_1
  /-- `rcl`: d1 /2; R329. -/
  | rclD1_2
  /-- `rcr`: d1 /3; R330. -/
  | rcrD1_3
  /-- `shl`: d1 /4; R331. -/
  | shlD1_4
  /-- `shr`: d1 /5; R332. -/
  | shrD1_5
  /-- `sar`: d1 /7; R333. -/
  | sarD1_7
  /-- `dispatch.group2`: d2 /r, the group-dispatch entry; R174. -/
  | dispatchD2
  /-- `rol`: d2 /0; R327. -/
  | rolD2_0
  /-- `ror`: d2 /1; R328. -/
  | rorD2_1
  /-- `rcl`: d2 /2; R329. -/
  | rclD2_2
  /-- `rcr`: d2 /3; R330. -/
  | rcrD2_3
  /-- `shl`: d2 /4; R331. -/
  | shlD2_4
  /-- `shr`: d2 /5; R332. -/
  | shrD2_5
  /-- `sar`: d2 /7; R333. -/
  | sarD2_7
  /-- `dispatch.group2`: d3 /r, the group-dispatch entry; R174. -/
  | dispatchD3
  /-- `rol`: d3 /0; R327. -/
  | rolD3_0
  /-- `ror`: d3 /1; R328. -/
  | rorD3_1
  /-- `rcl`: d3 /2; R329. -/
  | rclD3_2
  /-- `rcr`: d3 /3; R330. -/
  | rcrD3_3
  /-- `shl`: d3 /4; R331. -/
  | shlD3_4
  /-- `shr`: d3 /5; R332. -/
  | shrD3_5
  /-- `sar`: d3 /7; R333. -/
  | sarD3_7
  /-- `aam`: d4 ib; R317. -/
  | aamD4
  /-- `aad`: d5 ib; R318. -/
  | aadD5
  /-- `xlat`: d7; R371. -/
  | xlatD7
  /-- `loopne`: e0 cb; R415. -/
  | loopneE0
  /-- `loope`: e1 cb; R416. -/
  | loopeE1
  /-- `loop`: e2 cb; R417. -/
  | loopE2
  /-- `jecxz`: e3 cb; R418. -/
  | jecxzE3
  /-- `in`: e4 ib; R430. -/
  | inE4
  /-- `in`: e5 ib; R430. -/
  | inE5
  /-- `out`: e6 ib; R431. -/
  | outE6
  /-- `out`: e7 ib; R431. -/
  | outE7
  /-- `call`: e8 cv(ad); R419. -/
  | callE8
  /-- `jmp`: e9 cv(ad); R420. -/
  | jmpE9
  /-- `jmp`: eb cb; R420. -/
  | jmpEB
  /-- `in`: ec; R430. -/
  | inEC
  /-- `in`: ed; R430. -/
  | inED
  /-- `out`: ee; R431. -/
  | outEE
  /-- `out`: ef; R431. -/
  | outEF
  /-- `hlt`: f4; R434. -/
  | hltF4
  /-- `cmc`: f5; R472. -/
  | cmcF5
  /-- `dispatch.group3`: f6 /r, the group-dispatch entry; R174. -/
  | dispatchF6
  /-- `test`: f6 /0 ib; R316. -/
  | testF6_0
  /-- `not`: f6 /2; R319. -/
  | notF6_2
  /-- `neg`: f6 /3; R320. -/
  | negF6_3
  /-- `mul`: f6 /4; R321. -/
  | mulF6_4
  /-- `imul`: f6 /5; R315. -/
  | imulF6_5
  /-- `div`: f6 /6; R322. -/
  | divF6_6
  /-- `idiv`: f6 /7; R323. -/
  | idivF6_7
  /-- `dispatch.group3`: f7 /r, the group-dispatch entry; R174. -/
  | dispatchF7
  /-- `test`: f7 /0 iv; R316. -/
  | testF7_0
  /-- `not`: f7 /2; R319. -/
  | notF7_2
  /-- `neg`: f7 /3; R320. -/
  | negF7_3
  /-- `mul`: f7 /4; R321. -/
  | mulF7_4
  /-- `imul`: f7 /5; R315. -/
  | imulF7_5
  /-- `div`: f7 /6; R322. -/
  | divF7_6
  /-- `idiv`: f7 /7; R323. -/
  | idivF7_7
  /-- `clc`: f8; R473. -/
  | clcF8
  /-- `stc`: f9; R474. -/
  | stcF9
  /-- `cli`: fa; R435. -/
  | cliFA
  /-- `sti`: fb; R436. -/
  | stiFB
  /-- `cld`: fc; R475. -/
  | cldFC
  /-- `std`: fd; R476. -/
  | stdFD
  /-- `dispatch.group4`: fe /r, the group-dispatch entry; R174. -/
  | dispatchFE
  /-- `inc`: fe /0; R313. -/
  | incFE_0
  /-- `dec`: fe /1; R314. -/
  | decFE_1
  /-- `dispatch.group5`: ff /r, the group-dispatch entry; R174. -/
  | dispatchFF
  /-- `inc`: ff /0; R313. -/
  | incFF_0
  /-- `dec`: ff /1; R314. -/
  | decFF_1
  /-- `call`: ff /2; R419. -/
  | callFF_2
  /-- `callf`: ff /3; R421. -/
  | callfFF_3
  /-- `jmp`: ff /4; R420. -/
  | jmpFF_4
  /-- `jmpf`: ff /5; R422. -/
  | jmpfFF_5
  /-- `push`: ff /6; R359. -/
  | pushFF_6
  /-- `dispatch.group6`: 0f 00 /r, the group-dispatch entry; R174. -/
  | dispatch0F00
  /-- `sldt`: 0f 00 /0; R437. -/
  | sldt0F00_0
  /-- `str`: 0f 00 /1; R438. -/
  | str0F00_1
  /-- `lldt`: 0f 00 /2; R439. -/
  | lldt0F00_2
  /-- `ltr`: 0f 00 /3; R440. -/
  | ltr0F00_3
  /-- `verr`: 0f 00 /4; R441. -/
  | verr0F00_4
  /-- `verw`: 0f 00 /5; R442. -/
  | verw0F00_5
  /-- `dispatch.group7`: 0f 01 /r, the group-dispatch entry; R174. -/
  | dispatch0F01
  /-- `sgdt`: 0f 01 /0; R443. -/
  | sgdt0F01_0
  /-- `sidt`: 0f 01 /1; R444. -/
  | sidt0F01_1
  /-- `lgdt`: 0f 01 /2; R445. -/
  | lgdt0F01_2
  /-- `lidt`: 0f 01 /3; R446. -/
  | lidt0F01_3
  /-- `smsw`: 0f 01 /4; R447. -/
  | smsw0F01_4
  /-- `lmsw`: 0f 01 /6; R448. -/
  | lmsw0F01_6
  /-- `invlpg`: 0f 01 /7; R449. -/
  | invlpg0F01_7
  /-- `lar`: 0f 02 /r; R450. -/
  | lar0F02
  /-- `lsl`: 0f 03 /r; R451. -/
  | lsl0F03
  /-- `clts`: 0f 06; R452. -/
  | clts0F06
  /-- `invd`: 0f 08; R453. -/
  | invd0F08
  /-- `wbinvd`: 0f 09; R454. -/
  | wbinvd0F09
  /-- `ud2`: 0f 0b; R455. -/
  | ud20F0B
  /-- `nop`: 0f 1f /r; R466. -/
  | nop0F1F
  /-- `mov_cr`: 0f 20 /r; R456. -/
  | movCr0F20
  /-- `mov_dr`: 0f 21 /r; R457. -/
  | movDr0F21
  /-- `mov_cr`: 0f 22 /r; R456. -/
  | movCr0F22
  /-- `mov_dr`: 0f 23 /r; R457. -/
  | movDr0F23
  /-- `wrmsr`: 0f 30; R458. -/
  | wrmsr0F30
  /-- `rdtsc`: 0f 31; R459. -/
  | rdtsc0F31
  /-- `rdmsr`: 0f 32; R460. -/
  | rdmsr0F32
  /-- `rdpmc`: 0f 33; R461. -/
  | rdpmc0F33
  /-- `sysenter`: 0f 34; R462. -/
  | sysenter0F34
  /-- `sysexit`: 0f 35; R463. -/
  | sysexit0F35
  /-- `cmovo`: 0f 40 /r; R372. -/
  | cmovo0F40
  /-- `cmovno`: 0f 41 /r; R373. -/
  | cmovno0F41
  /-- `cmovb`: 0f 42 /r; R374. -/
  | cmovb0F42
  /-- `cmovae`: 0f 43 /r; R375. -/
  | cmovae0F43
  /-- `cmove`: 0f 44 /r; R376. -/
  | cmove0F44
  /-- `cmovne`: 0f 45 /r; R377. -/
  | cmovne0F45
  /-- `cmovbe`: 0f 46 /r; R378. -/
  | cmovbe0F46
  /-- `cmova`: 0f 47 /r; R379. -/
  | cmova0F47
  /-- `cmovs`: 0f 48 /r; R380. -/
  | cmovs0F48
  /-- `cmovns`: 0f 49 /r; R381. -/
  | cmovns0F49
  /-- `cmovp`: 0f 4a /r; R382. -/
  | cmovp0F4A
  /-- `cmovnp`: 0f 4b /r; R383. -/
  | cmovnp0F4B
  /-- `cmovl`: 0f 4c /r; R384. -/
  | cmovl0F4C
  /-- `cmovge`: 0f 4d /r; R385. -/
  | cmovge0F4D
  /-- `cmovle`: 0f 4e /r; R386. -/
  | cmovle0F4E
  /-- `cmovg`: 0f 4f /r; R387. -/
  | cmovg0F4F
  /-- `jo`: 0f 80 cv(ad); R393. -/
  | jo0F80
  /-- `jno`: 0f 81 cv(ad); R394. -/
  | jno0F81
  /-- `jb`: 0f 82 cv(ad); R395. -/
  | jb0F82
  /-- `jae`: 0f 83 cv(ad); R396. -/
  | jae0F83
  /-- `je`: 0f 84 cv(ad); R397. -/
  | je0F84
  /-- `jne`: 0f 85 cv(ad); R398. -/
  | jne0F85
  /-- `jbe`: 0f 86 cv(ad); R399. -/
  | jbe0F86
  /-- `ja`: 0f 87 cv(ad); R400. -/
  | ja0F87
  /-- `js`: 0f 88 cv(ad); R401. -/
  | js0F88
  /-- `jns`: 0f 89 cv(ad); R402. -/
  | jns0F89
  /-- `jp`: 0f 8a cv(ad); R403. -/
  | jp0F8A
  /-- `jnp`: 0f 8b cv(ad); R404. -/
  | jnp0F8B
  /-- `jl`: 0f 8c cv(ad); R405. -/
  | jl0F8C
  /-- `jge`: 0f 8d cv(ad); R406. -/
  | jge0F8D
  /-- `jle`: 0f 8e cv(ad); R407. -/
  | jle0F8E
  /-- `jg`: 0f 8f cv(ad); R408. -/
  | jg0F8F
  /-- `seto`: 0f 90 /r; R334. -/
  | seto0F90
  /-- `setno`: 0f 91 /r; R335. -/
  | setno0F91
  /-- `setb`: 0f 92 /r; R336. -/
  | setb0F92
  /-- `setae`: 0f 93 /r; R337. -/
  | setae0F93
  /-- `sete`: 0f 94 /r; R338. -/
  | sete0F94
  /-- `setne`: 0f 95 /r; R339. -/
  | setne0F95
  /-- `setbe`: 0f 96 /r; R340. -/
  | setbe0F96
  /-- `seta`: 0f 97 /r; R341. -/
  | seta0F97
  /-- `sets`: 0f 98 /r; R342. -/
  | sets0F98
  /-- `setns`: 0f 99 /r; R343. -/
  | setns0F99
  /-- `setp`: 0f 9a /r; R344. -/
  | setp0F9A
  /-- `setnp`: 0f 9b /r; R345. -/
  | setnp0F9B
  /-- `setl`: 0f 9c /r; R346. -/
  | setl0F9C
  /-- `setge`: 0f 9d /r; R347. -/
  | setge0F9D
  /-- `setle`: 0f 9e /r; R348. -/
  | setle0F9E
  /-- `setg`: 0f 9f /r; R349. -/
  | setg0F9F
  /-- `push`: 0f a0; R359. -/
  | push0FA0
  /-- `pop`: 0f a1; R360. -/
  | pop0FA1
  /-- `cpuid`: 0f a2; R464. -/
  | cpuid0FA2
  /-- `bt`: 0f a3 /r; R350. -/
  | bt0FA3
  /-- `shld`: 0f a4 /r ib; R351. -/
  | shld0FA4
  /-- `push`: 0f a8; R359. -/
  | push0FA8
  /-- `pop`: 0f a9; R360. -/
  | pop0FA9
  /-- `rsm`: 0f aa; R465. -/
  | rsm0FAA
  /-- `bts`: 0f ab /r; R352. -/
  | bts0FAB
  /-- `shrd`: 0f ac /r ib; R353. -/
  | shrd0FAC
  /-- `imul`: 0f af /r; R315. -/
  | imul0FAF
  /-- `cmpxchg`: 0f b0 /r; R324. -/
  | cmpxchg0FB0
  /-- `cmpxchg`: 0f b1 /r; R324. -/
  | cmpxchg0FB1
  /-- `lss`: 0f b2 /r; R388. -/
  | lss0FB2
  /-- `btr`: 0f b3 /r; R354. -/
  | btr0FB3
  /-- `lfs`: 0f b4 /r; R389. -/
  | lfs0FB4
  /-- `lgs`: 0f b5 /r; R390. -/
  | lgs0FB5
  /-- `movzx`: 0f b6 /r; R391. -/
  | movzx0FB6
  /-- `movzx`: 0f b7 /r; R391. -/
  | movzx0FB7
  /-- `dispatch.group8`: 0f ba /r, the group-dispatch entry; R174. -/
  | dispatch0FBA
  /-- `bt`: 0f ba /4 ib; R350. -/
  | bt0FBA_4
  /-- `bts`: 0f ba /5 ib; R352. -/
  | bts0FBA_5
  /-- `btr`: 0f ba /6 ib; R354. -/
  | btr0FBA_6
  /-- `btc`: 0f ba /7 ib; R355. -/
  | btc0FBA_7
  /-- `btc`: 0f bb /r; R355. -/
  | btc0FBB
  /-- `bsf`: 0f bc /r; R356. -/
  | bsf0FBC
  /-- `bsr`: 0f bd /r; R357. -/
  | bsr0FBD
  /-- `movsx`: 0f be /r; R392. -/
  | movsx0FBE
  /-- `movsx`: 0f bf /r; R392. -/
  | movsx0FBF
  /-- `xadd`: 0f c0 /r; R325. -/
  | xadd0FC0
  /-- `xadd`: 0f c1 /r; R325. -/
  | xadd0FC1
  /-- `dispatch.group9`: 0f c7 /r, the group-dispatch entry; R174. -/
  | dispatch0FC7
  /-- `cmpxchg8b`: 0f c7 /1; R326. -/
  | cmpxchg8b0FC7_1
  /-- `bswap`: 0f c8+r; R358. -/
  | bswap0FC8
  /-- `xchg`: 66 90 (prefix 66 required); R363. -/
  | xchg66_90
  deriving DecidableEq, Repr

/-- An instruction without its prefixes: a row of the table and its parts (30_encoding.md R111). A part that the row does not have is
zero (WellFormed.lean). -/
structure Insn where
  row : Instr
  /-- The ModR/M register field, or the register in the opcode byte's low bits. -/
  reg : BitVec 3
  /-- The addressing form. -/
  rm : Rm
  /-- The immediate-class part as an unsigned little-endian value (R123); for the escape's row the byte after 0F. -/
  imm : Word
  deriving DecidableEq, Repr

end Sys2Proof
end

