-- ==== Sys2Proof/Decode.lean ====
section
/-! DEFINITION. The decoder: bytes to rows of the reference table REF (30_encoding.md sections 1 to 6 and 10), and the encoder written
from the same encodings. Total on any bytes: a byte string gives prefix rows and then a row, or a rejection by name (an opcode byte
whose T1 entry is null, or bytes that run out). The block's own path over arbitrary tables is Machine/Pipeline.lean. -/

namespace Sys2Proof

/-! Sizes (40_decode_pipeline.md R192, R195) and bytes. -/

/-- INV, the size inversion (R195), which the spec defines on word and long only; elsewhere the identity (log entry 11). -/
def sizeInv : SizeClass → SizeClass
  | .word => .long
  | .long => .word
  | c => c

/-- bytes(s) (R192); `none` where the rule does not define it. -/
def sizeBytes : SizeClass → Option Nat
  | .byte => some 1
  | .word => some 2
  | .long => some 4
  | .quad => some 8
  | .none => none
  | .full => none

/-- The next n bytes as a little-endian unsigned value (20_memory.md R89), and what follows them. -/
def takeLE : Nat → List Byte → Option (Nat × List Byte)
  | 0, bs => some (0, bs)
  | _ + 1, [] => none
  | n + 1, b :: bs =>
    match takeLE n bs with
    | some (v, rest) => some (b.toNat + 256 * v, rest)
    | none => none

/-- n bytes of a value, the least significant first (R89). -/
def leBytes : Nat → Nat → List Byte
  | 0, _ => []
  | n + 1, v => BitVec.ofNat 8 v :: leBytes n (v / 256)

/-- MOD, bits 7-6 of a ModR/M byte, and the scale code of a SIB byte (30_encoding.md R119, R120). -/
def topField (b : Byte) : BitVec 2 := b.extractLsb' 6 2

/-- REG, bits 5-3 of a ModR/M byte, and INDEX of a SIB byte. -/
def midField (b : Byte) : BitVec 3 := b.extractLsb' 3 3

/-- RM, bits 2-0 of a ModR/M byte, and BASE of a SIB byte. -/
def lowField (b : Byte) : BitVec 3 := b.extractLsb' 0 3

/-- The byte with the three fields of R119 and R120. -/
def packFields (t : BitVec 2) (m l : BitVec 3) : Byte := t ++ m ++ l

/-- An opcode byte with a register in its low three bits (R124, ZB, ZV, ZD). -/
def regByte (base : Byte) (r : BitVec 3) : Byte := base ||| r.setWidth 8

/-! The sizes an instruction's bytes depend on (30_encoding.md R139). -/

/-- The defaults and the two prefix-seen flags. No descriptor of REF has a fixed address size, and none with an IV tag a fixed operand
size, so these decide every width in REF. -/
structure SizeCtx where
  defOp : SizeClass
  defAd : SizeClass
  opszSeen : Bool
  adszSeen : Bool
  deriving DecidableEq, Repr

/-- opsize() of a descriptor without a fixed operand size (R193). -/
def SizeCtx.opsize (c : SizeCtx) : SizeClass := if c.opszSeen then sizeInv c.defOp else c.defOp

/-- adsize() of a descriptor without a fixed address size (R194). -/
def SizeCtx.adsize (c : SizeCtx) : SizeClass := if c.adszSeen then sizeInv c.defAd else c.defAd

/-- Whether a SIB byte is read (R111, R179). -/
def hasSib (ad : SizeClass) (mod : BitVec 2) (rm : BitVec 3) : Bool :=
  ad == .long && mod != 3 && rm == 4

/-- The size class of the displacement (30_encoding.md R121, R122). `base` matters only where a SIB byte is read. -/
def dispClass (ad : SizeClass) (mod : BitVec 2) (rm base : BitVec 3) : SizeClass :=
  match ad with
  | .long =>
    if mod = 0 then (if rm = 5 ∨ (rm = 4 ∧ base = 5) then .long else .none)
    else if mod = 1 then .byte
    else if mod = 2 then .long
    else .none
  | .word =>
    if mod = 0 then (if rm = 6 then .word else .none)
    else if mod = 1 then .byte
    else if mod = 2 then .word
    else .none
  | _ => .none

/-- How many bytes the displacement takes. -/
def dispBytes (ad : SizeClass) (mod : BitVec 2) (rm base : BitVec 3) : Nat :=
  (sizeBytes (dispClass ad mod rm base)).getD 0

/-- The ModR/M byte and what follows it (R119 to R122): the register field, the addressing form, the rest. -/
def parseRm (ad : SizeClass) : List Byte → Option (BitVec 3 × Rm × List Byte)
  | [] => none
  | b :: bs =>
    let mod := topField b
    let rm := lowField b
    let sibAnd : Option (Sib × List Byte) :=
      if hasSib ad mod rm then
        match bs with
        | [] => none
        | x :: xs => some (⟨topField x, midField x, lowField x⟩, xs)
      else some (⟨0, 0, 0⟩, bs)
    match sibAnd with
    | none => none
    | some (sib, bs') =>
      match takeLE (dispBytes ad mod rm sib.base) bs' with
      | none => none
      | some (v, rest) => some (midField b, ⟨mod, rm, sib, BitVec.ofNat 32 v⟩, rest)

/-- The bytes of an addressing form. -/
def encodeRm (ad : SizeClass) (r : BitVec 3) (m : Rm) : List Byte :=
  packFields m.mod r m.rm ::
    ((if hasSib ad m.mod m.rm then [packFields m.sib.code m.sib.index m.sib.base] else [])
      ++ leBytes (dispBytes ad m.mod m.rm m.sib.base) m.disp.toNat)

/-- The immediate-class tags of REF (30_encoding.md R123, R124), and the byte after the escape where it names no row (R169). -/
inductive ImmKind where
  | ib | iw | ibs | iv | ov | jb | jv | second
  deriving DecidableEq, Repr

/-- The bytes of an immediate-class part (R123). A size without a byte count has none; no context of the block has one (R51). -/
def ImmKind.bytes (c : SizeCtx) : ImmKind → Nat
  | .ib => 1
  | .iw => 2
  | .ibs => 1
  | .jb => 1
  | .iv => (sizeBytes c.opsize).getD 0
  | .ov => (sizeBytes c.adsize).getD 0
  | .jv => (sizeBytes c.adsize).getD 0
  | .second => 1

/-- How a row is encoded (30_encoding.md R111): the opcode bytes with the escape, whether a register stands in the opcode byte's low
bits, whether a ModR/M byte follows, the digit its register field must hold (R117), the immediate-class part. -/
structure Shape where
  opcode : List Byte
  lowReg : Bool
  modRm : Bool
  digit : Option (BitVec 3)
  imm : Option ImmKind
  deriving DecidableEq, Repr

/-- Opcode bytes and no register. -/
def Shape.plain (opcode : List Byte) (imm : Option ImmKind := none) : Shape := ⟨opcode, false, false, none, imm⟩

/-- A register in the opcode byte's low bits. -/
def Shape.lowRegister (opcode : List Byte) (imm : Option ImmKind := none) : Shape := ⟨opcode, true, false, none, imm⟩

/-- A ModR/M byte. -/
def Shape.addressed (opcode : List Byte) (imm : Option ImmKind := none) : Shape := ⟨opcode, false, true, none, imm⟩

/-- A ModR/M byte whose register field is the group digit. -/
def Shape.member (opcode : List Byte) (d : BitVec 3) (imm : Option ImmKind := none) : Shape := ⟨opcode, false, true, some d, imm⟩

/-- An entry of the one-byte or two-byte map. -/
inductive Entry where
  | null
  | row (i : Instr)
  /-- A group-dispatch entry and its primary key (R116). -/
  | group (key : Nat) (i : Instr)
  deriving DecidableEq, Repr

/-! The opcode maps of REF (30_encoding.md section 10). -/

/-- T1, the one-byte map, by opcode byte (R128). -/
def t1Entry : Nat → Entry
  | 0x00 => .row .add00
  | 0x01 => .row .add01
  | 0x02 => .row .add02
  | 0x03 => .row .add03
  | 0x04 => .row .add04
  | 0x05 => .row .add05
  | 0x06 => .row .push06
  | 0x07 => .row .pop07
  | 0x08 => .row .or08
  | 0x09 => .row .or09
  | 0x0A => .row .or0A
  | 0x0B => .row .or0B
  | 0x0C => .row .or0C
  | 0x0D => .row .or0D
  | 0x0E => .row .push0E
  | 0x10 => .row .adc10
  | 0x11 => .row .adc11
  | 0x12 => .row .adc12
  | 0x13 => .row .adc13
  | 0x14 => .row .adc14
  | 0x15 => .row .adc15
  | 0x16 => .row .push16
  | 0x17 => .row .pop17
  | 0x18 => .row .sbb18
  | 0x19 => .row .sbb19
  | 0x1A => .row .sbb1A
  | 0x1B => .row .sbb1B
  | 0x1C => .row .sbb1C
  | 0x1D => .row .sbb1D
  | 0x1E => .row .push1E
  | 0x1F => .row .pop1F
  | 0x20 => .row .and20
  | 0x21 => .row .and21
  | 0x22 => .row .and22
  | 0x23 => .row .and23
  | 0x24 => .row .and24
  | 0x25 => .row .and25
  | 0x27 => .row .daa27
  | 0x28 => .row .sub28
  | 0x29 => .row .sub29
  | 0x2A => .row .sub2A
  | 0x2B => .row .sub2B
  | 0x2C => .row .sub2C
  | 0x2D => .row .sub2D
  | 0x2F => .row .das2F
  | 0x30 => .row .xor30
  | 0x31 => .row .xor31
  | 0x32 => .row .xor32
  | 0x33 => .row .xor33
  | 0x34 => .row .xor34
  | 0x35 => .row .xor35
  | 0x37 => .row .aaa37
  | 0x38 => .row .cmp38
  | 0x39 => .row .cmp39
  | 0x3A => .row .cmp3A
  | 0x3B => .row .cmp3B
  | 0x3C => .row .cmp3C
  | 0x3D => .row .cmp3D
  | 0x3F => .row .aas3F
  | 0x40 => .row .inc40
  | 0x41 => .row .inc40
  | 0x42 => .row .inc40
  | 0x43 => .row .inc40
  | 0x44 => .row .inc40
  | 0x45 => .row .inc40
  | 0x46 => .row .inc40
  | 0x47 => .row .inc40
  | 0x48 => .row .dec48
  | 0x49 => .row .dec48
  | 0x4A => .row .dec48
  | 0x4B => .row .dec48
  | 0x4C => .row .dec48
  | 0x4D => .row .dec48
  | 0x4E => .row .dec48
  | 0x4F => .row .dec48
  | 0x50 => .row .push50
  | 0x51 => .row .push50
  | 0x52 => .row .push50
  | 0x53 => .row .push50
  | 0x54 => .row .push50
  | 0x55 => .row .push50
  | 0x56 => .row .push50
  | 0x57 => .row .push50
  | 0x58 => .row .pop58
  | 0x59 => .row .pop58
  | 0x5A => .row .pop58
  | 0x5B => .row .pop58
  | 0x5C => .row .pop58
  | 0x5D => .row .pop58
  | 0x5E => .row .pop58
  | 0x5F => .row .pop58
  | 0x60 => .row .pusha60
  | 0x61 => .row .popa61
  | 0x62 => .row .bound62
  | 0x63 => .row .arpl63
  | 0x68 => .row .push68
  | 0x69 => .row .imul69
  | 0x6A => .row .push6A
  | 0x6B => .row .imul6B
  | 0x6C => .row .ins6C
  | 0x6D => .row .ins6D
  | 0x6E => .row .outs6E
  | 0x6F => .row .outs6F
  | 0x70 => .row .jo70
  | 0x71 => .row .jno71
  | 0x72 => .row .jb72
  | 0x73 => .row .jae73
  | 0x74 => .row .je74
  | 0x75 => .row .jne75
  | 0x76 => .row .jbe76
  | 0x77 => .row .ja77
  | 0x78 => .row .js78
  | 0x79 => .row .jns79
  | 0x7A => .row .jp7A
  | 0x7B => .row .jnp7B
  | 0x7C => .row .jl7C
  | 0x7D => .row .jge7D
  | 0x7E => .row .jle7E
  | 0x7F => .row .jg7F
  | 0x80 => .group 0x80 .dispatch80
  | 0x81 => .group 0x81 .dispatch81
  | 0x82 => .group 0x82 .dispatch82
  | 0x83 => .group 0x83 .dispatch83
  | 0x84 => .row .test84
  | 0x85 => .row .test85
  | 0x86 => .row .xchg86
  | 0x87 => .row .xchg87
  | 0x88 => .row .mov88
  | 0x89 => .row .mov89
  | 0x8A => .row .mov8A
  | 0x8B => .row .mov8B
  | 0x8C => .row .mov8C
  | 0x8D => .row .lea8D
  | 0x8E => .row .mov8E
  | 0x8F => .group 0x8F .dispatch8F
  | 0x90 => .row .nop90
  | 0x91 => .row .xchg91
  | 0x92 => .row .xchg91
  | 0x93 => .row .xchg91
  | 0x94 => .row .xchg91
  | 0x95 => .row .xchg91
  | 0x96 => .row .xchg91
  | 0x97 => .row .xchg91
  | 0x98 => .row .cwde98
  | 0x99 => .row .cdq99
  | 0x9B => .row .fwait9B
  | 0x9C => .row .pushf9C
  | 0x9D => .row .popf9D
  | 0x9E => .row .sahf9E
  | 0x9F => .row .lahf9F
  | 0xA0 => .row .movA0
  | 0xA1 => .row .movA1
  | 0xA2 => .row .movA2
  | 0xA3 => .row .movA3
  | 0xA4 => .row .movsA4
  | 0xA5 => .row .movsA5
  | 0xA6 => .row .cmpsA6
  | 0xA7 => .row .cmpsA7
  | 0xA8 => .row .testA8
  | 0xA9 => .row .testA9
  | 0xAA => .row .stosAA
  | 0xAB => .row .stosAB
  | 0xAC => .row .lodsAC
  | 0xAD => .row .lodsAD
  | 0xAE => .row .scasAE
  | 0xAF => .row .scasAF
  | 0xB0 => .row .movB0
  | 0xB1 => .row .movB0
  | 0xB2 => .row .movB0
  | 0xB3 => .row .movB0
  | 0xB4 => .row .movB0
  | 0xB5 => .row .movB0
  | 0xB6 => .row .movB0
  | 0xB7 => .row .movB0
  | 0xB8 => .row .movB8
  | 0xB9 => .row .movB8
  | 0xBA => .row .movB8
  | 0xBB => .row .movB8
  | 0xBC => .row .movB8
  | 0xBD => .row .movB8
  | 0xBE => .row .movB8
  | 0xBF => .row .movB8
  | 0xC0 => .group 0xC0 .dispatchC0
  | 0xC1 => .group 0xC1 .dispatchC1
  | 0xC2 => .row .retC2
  | 0xC3 => .row .retC3
  | 0xC4 => .row .lesC4
  | 0xC5 => .row .ldsC5
  | 0xC6 => .group 0xC6 .dispatchC6
  | 0xC7 => .group 0xC7 .dispatchC7
  | 0xC9 => .row .leaveC9
  | 0xCA => .row .retfCA
  | 0xCB => .row .retfCB
  | 0xCC => .row .int3CC
  | 0xCD => .row .intCD
  | 0xCE => .row .intoCE
  | 0xCF => .row .iretCF
  | 0xD0 => .group 0xD0 .dispatchD0
  | 0xD1 => .group 0xD1 .dispatchD1
  | 0xD2 => .group 0xD2 .dispatchD2
  | 0xD3 => .group 0xD3 .dispatchD3
  | 0xD4 => .row .aamD4
  | 0xD5 => .row .aadD5
  | 0xD7 => .row .xlatD7
  | 0xE0 => .row .loopneE0
  | 0xE1 => .row .loopeE1
  | 0xE2 => .row .loopE2
  | 0xE3 => .row .jecxzE3
  | 0xE4 => .row .inE4
  | 0xE5 => .row .inE5
  | 0xE6 => .row .outE6
  | 0xE7 => .row .outE7
  | 0xE8 => .row .callE8
  | 0xE9 => .row .jmpE9
  | 0xEB => .row .jmpEB
  | 0xEC => .row .inEC
  | 0xED => .row .inED
  | 0xEE => .row .outEE
  | 0xEF => .row .outEF
  | 0xF4 => .row .hltF4
  | 0xF5 => .row .cmcF5
  | 0xF6 => .group 0xF6 .dispatchF6
  | 0xF7 => .group 0xF7 .dispatchF7
  | 0xF8 => .row .clcF8
  | 0xF9 => .row .stcF9
  | 0xFA => .row .cliFA
  | 0xFB => .row .stiFB
  | 0xFC => .row .cldFC
  | 0xFD => .row .stdFD
  | 0xFE => .group 0xFE .dispatchFE
  | 0xFF => .group 0xFF .dispatchFF
  | _ => .null

/-- T2, the two-byte map, by the byte after 0F (R128). -/
def t2Entry : Nat → Entry
  | 0x00 => .group 0xF00 .dispatch0F00
  | 0x01 => .group 0xF01 .dispatch0F01
  | 0x02 => .row .lar0F02
  | 0x03 => .row .lsl0F03
  | 0x06 => .row .clts0F06
  | 0x08 => .row .invd0F08
  | 0x09 => .row .wbinvd0F09
  | 0x0B => .row .ud20F0B
  | 0x1F => .row .nop0F1F
  | 0x20 => .row .movCr0F20
  | 0x21 => .row .movDr0F21
  | 0x22 => .row .movCr0F22
  | 0x23 => .row .movDr0F23
  | 0x30 => .row .wrmsr0F30
  | 0x31 => .row .rdtsc0F31
  | 0x32 => .row .rdmsr0F32
  | 0x33 => .row .rdpmc0F33
  | 0x34 => .row .sysenter0F34
  | 0x35 => .row .sysexit0F35
  | 0x40 => .row .cmovo0F40
  | 0x41 => .row .cmovno0F41
  | 0x42 => .row .cmovb0F42
  | 0x43 => .row .cmovae0F43
  | 0x44 => .row .cmove0F44
  | 0x45 => .row .cmovne0F45
  | 0x46 => .row .cmovbe0F46
  | 0x47 => .row .cmova0F47
  | 0x48 => .row .cmovs0F48
  | 0x49 => .row .cmovns0F49
  | 0x4A => .row .cmovp0F4A
  | 0x4B => .row .cmovnp0F4B
  | 0x4C => .row .cmovl0F4C
  | 0x4D => .row .cmovge0F4D
  | 0x4E => .row .cmovle0F4E
  | 0x4F => .row .cmovg0F4F
  | 0x80 => .row .jo0F80
  | 0x81 => .row .jno0F81
  | 0x82 => .row .jb0F82
  | 0x83 => .row .jae0F83
  | 0x84 => .row .je0F84
  | 0x85 => .row .jne0F85
  | 0x86 => .row .jbe0F86
  | 0x87 => .row .ja0F87
  | 0x88 => .row .js0F88
  | 0x89 => .row .jns0F89
  | 0x8A => .row .jp0F8A
  | 0x8B => .row .jnp0F8B
  | 0x8C => .row .jl0F8C
  | 0x8D => .row .jge0F8D
  | 0x8E => .row .jle0F8E
  | 0x8F => .row .jg0F8F
  | 0x90 => .row .seto0F90
  | 0x91 => .row .setno0F91
  | 0x92 => .row .setb0F92
  | 0x93 => .row .setae0F93
  | 0x94 => .row .sete0F94
  | 0x95 => .row .setne0F95
  | 0x96 => .row .setbe0F96
  | 0x97 => .row .seta0F97
  | 0x98 => .row .sets0F98
  | 0x99 => .row .setns0F99
  | 0x9A => .row .setp0F9A
  | 0x9B => .row .setnp0F9B
  | 0x9C => .row .setl0F9C
  | 0x9D => .row .setge0F9D
  | 0x9E => .row .setle0F9E
  | 0x9F => .row .setg0F9F
  | 0xA0 => .row .push0FA0
  | 0xA1 => .row .pop0FA1
  | 0xA2 => .row .cpuid0FA2
  | 0xA3 => .row .bt0FA3
  | 0xA4 => .row .shld0FA4
  | 0xA8 => .row .push0FA8
  | 0xA9 => .row .pop0FA9
  | 0xAA => .row .rsm0FAA
  | 0xAB => .row .bts0FAB
  | 0xAC => .row .shrd0FAC
  | 0xAF => .row .imul0FAF
  | 0xB0 => .row .cmpxchg0FB0
  | 0xB1 => .row .cmpxchg0FB1
  | 0xB2 => .row .lss0FB2
  | 0xB3 => .row .btr0FB3
  | 0xB4 => .row .lfs0FB4
  | 0xB5 => .row .lgs0FB5
  | 0xB6 => .row .movzx0FB6
  | 0xB7 => .row .movzx0FB7
  | 0xBA => .group 0xFBA .dispatch0FBA
  | 0xBB => .row .btc0FBB
  | 0xBC => .row .bsf0FBC
  | 0xBD => .row .bsr0FBD
  | 0xBE => .row .movsx0FBE
  | 0xBF => .row .movsx0FBF
  | 0xC0 => .row .xadd0FC0
  | 0xC1 => .row .xadd0FC1
  | 0xC7 => .group 0xFC7 .dispatch0FC7
  | 0xC8 => .row .bswap0FC8
  | 0xC9 => .row .bswap0FC8
  | 0xCA => .row .bswap0FC8
  | 0xCB => .row .bswap0FC8
  | 0xCC => .row .bswap0FC8
  | 0xCD => .row .bswap0FC8
  | 0xCE => .row .bswap0FC8
  | 0xCF => .row .bswap0FC8
  | _ => .null

/-- TG, the group map, by group key (R117). -/
def tgRow : Nat → Option Instr
  | 0x8000 => some .add80_0
  | 0x8001 => some .or80_1
  | 0x8002 => some .adc80_2
  | 0x8003 => some .sbb80_3
  | 0x8004 => some .and80_4
  | 0x8005 => some .sub80_5
  | 0x8006 => some .xor80_6
  | 0x8007 => some .cmp80_7
  | 0x8100 => some .add81_0
  | 0x8101 => some .or81_1
  | 0x8102 => some .adc81_2
  | 0x8103 => some .sbb81_3
  | 0x8104 => some .and81_4
  | 0x8105 => some .sub81_5
  | 0x8106 => some .xor81_6
  | 0x8107 => some .cmp81_7
  | 0x8200 => some .add82_0
  | 0x8201 => some .or82_1
  | 0x8202 => some .adc82_2
  | 0x8203 => some .sbb82_3
  | 0x8204 => some .and82_4
  | 0x8205 => some .sub82_5
  | 0x8206 => some .xor82_6
  | 0x8207 => some .cmp82_7
  | 0x8300 => some .add83_0
  | 0x8301 => some .or83_1
  | 0x8302 => some .adc83_2
  | 0x8303 => some .sbb83_3
  | 0x8304 => some .and83_4
  | 0x8305 => some .sub83_5
  | 0x8306 => some .xor83_6
  | 0x8307 => some .cmp83_7
  | 0x8F00 => some .pop8F_0
  | 0xC000 => some .rolC0_0
  | 0xC001 => some .rorC0_1
  | 0xC002 => some .rclC0_2
  | 0xC003 => some .rcrC0_3
  | 0xC004 => some .shlC0_4
  | 0xC005 => some .shrC0_5
  | 0xC007 => some .sarC0_7
  | 0xC100 => some .rolC1_0
  | 0xC101 => some .rorC1_1
  | 0xC102 => some .rclC1_2
  | 0xC103 => some .rcrC1_3
  | 0xC104 => some .shlC1_4
  | 0xC105 => some .shrC1_5
  | 0xC107 => some .sarC1_7
  | 0xC600 => some .movC6_0
  | 0xC700 => some .movC7_0
  | 0xD000 => some .rolD0_0
  | 0xD001 => some .rorD0_1
  | 0xD002 => some .rclD0_2
  | 0xD003 => some .rcrD0_3
  | 0xD004 => some .shlD0_4
  | 0xD005 => some .shrD0_5
  | 0xD007 => some .sarD0_7
  | 0xD100 => some .rolD1_0
  | 0xD101 => some .rorD1_1
  | 0xD102 => some .rclD1_2
  | 0xD103 => some .rcrD1_3
  | 0xD104 => some .shlD1_4
  | 0xD105 => some .shrD1_5
  | 0xD107 => some .sarD1_7
  | 0xD200 => some .rolD2_0
  | 0xD201 => some .rorD2_1
  | 0xD202 => some .rclD2_2
  | 0xD203 => some .rcrD2_3
  | 0xD204 => some .shlD2_4
  | 0xD205 => some .shrD2_5
  | 0xD207 => some .sarD2_7
  | 0xD300 => some .rolD3_0
  | 0xD301 => some .rorD3_1
  | 0xD302 => some .rclD3_2
  | 0xD303 => some .rcrD3_3
  | 0xD304 => some .shlD3_4
  | 0xD305 => some .shrD3_5
  | 0xD307 => some .sarD3_7
  | 0xF600 => some .testF6_0
  | 0xF602 => some .notF6_2
  | 0xF603 => some .negF6_3
  | 0xF604 => some .mulF6_4
  | 0xF605 => some .imulF6_5
  | 0xF606 => some .divF6_6
  | 0xF607 => some .idivF6_7
  | 0xF700 => some .testF7_0
  | 0xF702 => some .notF7_2
  | 0xF703 => some .negF7_3
  | 0xF704 => some .mulF7_4
  | 0xF705 => some .imulF7_5
  | 0xF706 => some .divF7_6
  | 0xF707 => some .idivF7_7
  | 0xFE00 => some .incFE_0
  | 0xFE01 => some .decFE_1
  | 0xFF00 => some .incFF_0
  | 0xFF01 => some .decFF_1
  | 0xFF02 => some .callFF_2
  | 0xFF03 => some .callfFF_3
  | 0xFF04 => some .jmpFF_4
  | 0xFF05 => some .jmpfFF_5
  | 0xFF06 => some .pushFF_6
  | 0xF0000 => some .sldt0F00_0
  | 0xF0001 => some .str0F00_1
  | 0xF0002 => some .lldt0F00_2
  | 0xF0003 => some .ltr0F00_3
  | 0xF0004 => some .verr0F00_4
  | 0xF0005 => some .verw0F00_5
  | 0xF0100 => some .sgdt0F01_0
  | 0xF0101 => some .sidt0F01_1
  | 0xF0102 => some .lgdt0F01_2
  | 0xF0103 => some .lidt0F01_3
  | 0xF0104 => some .smsw0F01_4
  | 0xF0106 => some .lmsw0F01_6
  | 0xF0107 => some .invlpg0F01_7
  | 0xFBA04 => some .bt0FBA_4
  | 0xFBA05 => some .bts0FBA_5
  | 0xFBA06 => some .btr0FBA_6
  | 0xFBA07 => some .btc0FBA_7
  | 0xFC701 => some .cmpxchg8b0FC7_1
  | _ => none

/-- The encoding of each row (opcode_table.json, `bytes`; the forms tables). -/
def Instr.shape : Instr → Shape
  | .prefixLock => .plain [0xF0]
  | .prefixRepnz => .plain [0xF2]
  | .prefixRepz => .plain [0xF3]
  | .prefixEs => .plain [0x26]
  | .prefixCs => .plain [0x2E]
  | .prefixSs => .plain [0x36]
  | .prefixDs => .plain [0x3E]
  | .prefixFs => .plain [0x64]
  | .prefixGs => .plain [0x65]
  | .prefixOpsize => .plain [0x66]
  | .prefixAdsize => .plain [0x67]
  | .escape0F => .plain [0x0F] (some .second)
  | .add00 => .addressed [0x00]
  | .add01 => .addressed [0x01]
  | .add02 => .addressed [0x02]
  | .add03 => .addressed [0x03]
  | .add04 => .plain [0x04] (some .ib)
  | .add05 => .plain [0x05] (some .iv)
  | .or08 => .addressed [0x08]
  | .or09 => .addressed [0x09]
  | .or0A => .addressed [0x0A]
  | .or0B => .addressed [0x0B]
  | .or0C => .plain [0x0C] (some .ib)
  | .or0D => .plain [0x0D] (some .iv)
  | .adc10 => .addressed [0x10]
  | .adc11 => .addressed [0x11]
  | .adc12 => .addressed [0x12]
  | .adc13 => .addressed [0x13]
  | .adc14 => .plain [0x14] (some .ib)
  | .adc15 => .plain [0x15] (some .iv)
  | .sbb18 => .addressed [0x18]
  | .sbb19 => .addressed [0x19]
  | .sbb1A => .addressed [0x1A]
  | .sbb1B => .addressed [0x1B]
  | .sbb1C => .plain [0x1C] (some .ib)
  | .sbb1D => .plain [0x1D] (some .iv)
  | .and20 => .addressed [0x20]
  | .and21 => .addressed [0x21]
  | .and22 => .addressed [0x22]
  | .and23 => .addressed [0x23]
  | .and24 => .plain [0x24] (some .ib)
  | .and25 => .plain [0x25] (some .iv)
  | .sub28 => .addressed [0x28]
  | .sub29 => .addressed [0x29]
  | .sub2A => .addressed [0x2A]
  | .sub2B => .addressed [0x2B]
  | .sub2C => .plain [0x2C] (some .ib)
  | .sub2D => .plain [0x2D] (some .iv)
  | .xor30 => .addressed [0x30]
  | .xor31 => .addressed [0x31]
  | .xor32 => .addressed [0x32]
  | .xor33 => .addressed [0x33]
  | .xor34 => .plain [0x34] (some .ib)
  | .xor35 => .plain [0x35] (some .iv)
  | .cmp38 => .addressed [0x38]
  | .cmp39 => .addressed [0x39]
  | .cmp3A => .addressed [0x3A]
  | .cmp3B => .addressed [0x3B]
  | .cmp3C => .plain [0x3C] (some .ib)
  | .cmp3D => .plain [0x3D] (some .iv)
  | .push06 => .plain [0x06]
  | .push0E => .plain [0x0E]
  | .push16 => .plain [0x16]
  | .push1E => .plain [0x1E]
  | .pop07 => .plain [0x07]
  | .pop17 => .plain [0x17]
  | .pop1F => .plain [0x1F]
  | .daa27 => .plain [0x27]
  | .das2F => .plain [0x2F]
  | .aaa37 => .plain [0x37]
  | .aas3F => .plain [0x3F]
  | .inc40 => .lowRegister [0x40]
  | .dec48 => .lowRegister [0x48]
  | .push50 => .lowRegister [0x50]
  | .pop58 => .lowRegister [0x58]
  | .pusha60 => .plain [0x60]
  | .popa61 => .plain [0x61]
  | .bound62 => .addressed [0x62]
  | .arpl63 => .addressed [0x63]
  | .push68 => .plain [0x68] (some .iv)
  | .imul69 => .addressed [0x69] (some .iv)
  | .push6A => .plain [0x6A] (some .ibs)
  | .imul6B => .addressed [0x6B] (some .ibs)
  | .ins6C => .plain [0x6C]
  | .ins6D => .plain [0x6D]
  | .outs6E => .plain [0x6E]
  | .outs6F => .plain [0x6F]
  | .jo70 => .plain [0x70] (some .jb)
  | .jno71 => .plain [0x71] (some .jb)
  | .jb72 => .plain [0x72] (some .jb)
  | .jae73 => .plain [0x73] (some .jb)
  | .je74 => .plain [0x74] (some .jb)
  | .jne75 => .plain [0x75] (some .jb)
  | .jbe76 => .plain [0x76] (some .jb)
  | .ja77 => .plain [0x77] (some .jb)
  | .js78 => .plain [0x78] (some .jb)
  | .jns79 => .plain [0x79] (some .jb)
  | .jp7A => .plain [0x7A] (some .jb)
  | .jnp7B => .plain [0x7B] (some .jb)
  | .jl7C => .plain [0x7C] (some .jb)
  | .jge7D => .plain [0x7D] (some .jb)
  | .jle7E => .plain [0x7E] (some .jb)
  | .jg7F => .plain [0x7F] (some .jb)
  | .dispatch80 => .addressed [0x80]
  | .add80_0 => .member [0x80] 0 (some .ib)
  | .or80_1 => .member [0x80] 1 (some .ib)
  | .adc80_2 => .member [0x80] 2 (some .ib)
  | .sbb80_3 => .member [0x80] 3 (some .ib)
  | .and80_4 => .member [0x80] 4 (some .ib)
  | .sub80_5 => .member [0x80] 5 (some .ib)
  | .xor80_6 => .member [0x80] 6 (some .ib)
  | .cmp80_7 => .member [0x80] 7 (some .ib)
  | .dispatch81 => .addressed [0x81]
  | .add81_0 => .member [0x81] 0 (some .iv)
  | .or81_1 => .member [0x81] 1 (some .iv)
  | .adc81_2 => .member [0x81] 2 (some .iv)
  | .sbb81_3 => .member [0x81] 3 (some .iv)
  | .and81_4 => .member [0x81] 4 (some .iv)
  | .sub81_5 => .member [0x81] 5 (some .iv)
  | .xor81_6 => .member [0x81] 6 (some .iv)
  | .cmp81_7 => .member [0x81] 7 (some .iv)
  | .dispatch82 => .addressed [0x82]
  | .add82_0 => .member [0x82] 0 (some .ib)
  | .or82_1 => .member [0x82] 1 (some .ib)
  | .adc82_2 => .member [0x82] 2 (some .ib)
  | .sbb82_3 => .member [0x82] 3 (some .ib)
  | .and82_4 => .member [0x82] 4 (some .ib)
  | .sub82_5 => .member [0x82] 5 (some .ib)
  | .xor82_6 => .member [0x82] 6 (some .ib)
  | .cmp82_7 => .member [0x82] 7 (some .ib)
  | .dispatch83 => .addressed [0x83]
  | .add83_0 => .member [0x83] 0 (some .ibs)
  | .or83_1 => .member [0x83] 1 (some .ibs)
  | .adc83_2 => .member [0x83] 2 (some .ibs)
  | .sbb83_3 => .member [0x83] 3 (some .ibs)
  | .and83_4 => .member [0x83] 4 (some .ibs)
  | .sub83_5 => .member [0x83] 5 (some .ibs)
  | .xor83_6 => .member [0x83] 6 (some .ibs)
  | .cmp83_7 => .member [0x83] 7 (some .ibs)
  | .test84 => .addressed [0x84]
  | .test85 => .addressed [0x85]
  | .xchg86 => .addressed [0x86]
  | .xchg87 => .addressed [0x87]
  | .mov88 => .addressed [0x88]
  | .mov89 => .addressed [0x89]
  | .mov8A => .addressed [0x8A]
  | .mov8B => .addressed [0x8B]
  | .mov8C => .addressed [0x8C]
  | .lea8D => .addressed [0x8D]
  | .mov8E => .addressed [0x8E]
  | .dispatch8F => .addressed [0x8F]
  | .pop8F_0 => .member [0x8F] 0
  | .nop90 => .plain [0x90]
  | .xchg91 => .lowRegister [0x90]
  | .cwde98 => .plain [0x98]
  | .cdq99 => .plain [0x99]
  | .fwait9B => .plain [0x9B]
  | .pushf9C => .plain [0x9C]
  | .popf9D => .plain [0x9D]
  | .sahf9E => .plain [0x9E]
  | .lahf9F => .plain [0x9F]
  | .movA0 => .plain [0xA0] (some .ov)
  | .movA1 => .plain [0xA1] (some .ov)
  | .movA2 => .plain [0xA2] (some .ov)
  | .movA3 => .plain [0xA3] (some .ov)
  | .movsA4 => .plain [0xA4]
  | .movsA5 => .plain [0xA5]
  | .cmpsA6 => .plain [0xA6]
  | .cmpsA7 => .plain [0xA7]
  | .testA8 => .plain [0xA8] (some .ib)
  | .testA9 => .plain [0xA9] (some .iv)
  | .stosAA => .plain [0xAA]
  | .stosAB => .plain [0xAB]
  | .lodsAC => .plain [0xAC]
  | .lodsAD => .plain [0xAD]
  | .scasAE => .plain [0xAE]
  | .scasAF => .plain [0xAF]
  | .movB0 => .lowRegister [0xB0] (some .ib)
  | .movB8 => .lowRegister [0xB8] (some .iv)
  | .dispatchC0 => .addressed [0xC0]
  | .rolC0_0 => .member [0xC0] 0 (some .ib)
  | .rorC0_1 => .member [0xC0] 1 (some .ib)
  | .rclC0_2 => .member [0xC0] 2 (some .ib)
  | .rcrC0_3 => .member [0xC0] 3 (some .ib)
  | .shlC0_4 => .member [0xC0] 4 (some .ib)
  | .shrC0_5 => .member [0xC0] 5 (some .ib)
  | .sarC0_7 => .member [0xC0] 7 (some .ib)
  | .dispatchC1 => .addressed [0xC1]
  | .rolC1_0 => .member [0xC1] 0 (some .ib)
  | .rorC1_1 => .member [0xC1] 1 (some .ib)
  | .rclC1_2 => .member [0xC1] 2 (some .ib)
  | .rcrC1_3 => .member [0xC1] 3 (some .ib)
  | .shlC1_4 => .member [0xC1] 4 (some .ib)
  | .shrC1_5 => .member [0xC1] 5 (some .ib)
  | .sarC1_7 => .member [0xC1] 7 (some .ib)
  | .retC2 => .plain [0xC2] (some .iw)
  | .retC3 => .plain [0xC3]
  | .lesC4 => .addressed [0xC4]
  | .ldsC5 => .addressed [0xC5]
  | .dispatchC6 => .addressed [0xC6]
  | .movC6_0 => .member [0xC6] 0 (some .ib)
  | .dispatchC7 => .addressed [0xC7]
  | .movC7_0 => .member [0xC7] 0 (some .iv)
  | .leaveC9 => .plain [0xC9]
  | .retfCA => .plain [0xCA] (some .iw)
  | .retfCB => .plain [0xCB]
  | .int3CC => .plain [0xCC]
  | .intCD => .plain [0xCD] (some .ib)
  | .intoCE => .plain [0xCE]
  | .iretCF => .plain [0xCF]
  | .dispatchD0 => .addressed [0xD0]
  | .rolD0_0 => .member [0xD0] 0
  | .rorD0_1 => .member [0xD0] 1
  | .rclD0_2 => .member [0xD0] 2
  | .rcrD0_3 => .member [0xD0] 3
  | .shlD0_4 => .member [0xD0] 4
  | .shrD0_5 => .member [0xD0] 5
  | .sarD0_7 => .member [0xD0] 7
  | .dispatchD1 => .addressed [0xD1]
  | .rolD1_0 => .member [0xD1] 0
  | .rorD1_1 => .member [0xD1] 1
  | .rclD1_2 => .member [0xD1] 2
  | .rcrD1_3 => .member [0xD1] 3
  | .shlD1_4 => .member [0xD1] 4
  | .shrD1_5 => .member [0xD1] 5
  | .sarD1_7 => .member [0xD1] 7
  | .dispatchD2 => .addressed [0xD2]
  | .rolD2_0 => .member [0xD2] 0
  | .rorD2_1 => .member [0xD2] 1
  | .rclD2_2 => .member [0xD2] 2
  | .rcrD2_3 => .member [0xD2] 3
  | .shlD2_4 => .member [0xD2] 4
  | .shrD2_5 => .member [0xD2] 5
  | .sarD2_7 => .member [0xD2] 7
  | .dispatchD3 => .addressed [0xD3]
  | .rolD3_0 => .member [0xD3] 0
  | .rorD3_1 => .member [0xD3] 1
  | .rclD3_2 => .member [0xD3] 2
  | .rcrD3_3 => .member [0xD3] 3
  | .shlD3_4 => .member [0xD3] 4
  | .shrD3_5 => .member [0xD3] 5
  | .sarD3_7 => .member [0xD3] 7
  | .aamD4 => .plain [0xD4] (some .ib)
  | .aadD5 => .plain [0xD5] (some .ib)
  | .xlatD7 => .plain [0xD7]
  | .loopneE0 => .plain [0xE0] (some .jb)
  | .loopeE1 => .plain [0xE1] (some .jb)
  | .loopE2 => .plain [0xE2] (some .jb)
  | .jecxzE3 => .plain [0xE3] (some .jb)
  | .inE4 => .plain [0xE4] (some .ib)
  | .inE5 => .plain [0xE5] (some .ib)
  | .outE6 => .plain [0xE6] (some .ib)
  | .outE7 => .plain [0xE7] (some .ib)
  | .callE8 => .plain [0xE8] (some .jv)
  | .jmpE9 => .plain [0xE9] (some .jv)
  | .jmpEB => .plain [0xEB] (some .jb)
  | .inEC => .plain [0xEC]
  | .inED => .plain [0xED]
  | .outEE => .plain [0xEE]
  | .outEF => .plain [0xEF]
  | .hltF4 => .plain [0xF4]
  | .cmcF5 => .plain [0xF5]
  | .dispatchF6 => .addressed [0xF6]
  | .testF6_0 => .member [0xF6] 0 (some .ib)
  | .notF6_2 => .member [0xF6] 2
  | .negF6_3 => .member [0xF6] 3
  | .mulF6_4 => .member [0xF6] 4
  | .imulF6_5 => .member [0xF6] 5
  | .divF6_6 => .member [0xF6] 6
  | .idivF6_7 => .member [0xF6] 7
  | .dispatchF7 => .addressed [0xF7]
  | .testF7_0 => .member [0xF7] 0 (some .iv)
  | .notF7_2 => .member [0xF7] 2
  | .negF7_3 => .member [0xF7] 3
  | .mulF7_4 => .member [0xF7] 4
  | .imulF7_5 => .member [0xF7] 5
  | .divF7_6 => .member [0xF7] 6
  | .idivF7_7 => .member [0xF7] 7
  | .clcF8 => .plain [0xF8]
  | .stcF9 => .plain [0xF9]
  | .cliFA => .plain [0xFA]
  | .stiFB => .plain [0xFB]
  | .cldFC => .plain [0xFC]
  | .stdFD => .plain [0xFD]
  | .dispatchFE => .addressed [0xFE]
  | .incFE_0 => .member [0xFE] 0
  | .decFE_1 => .member [0xFE] 1
  | .dispatchFF => .addressed [0xFF]
  | .incFF_0 => .member [0xFF] 0
  | .decFF_1 => .member [0xFF] 1
  | .callFF_2 => .member [0xFF] 2
  | .callfFF_3 => .member [0xFF] 3
  | .jmpFF_4 => .member [0xFF] 4
  | .jmpfFF_5 => .member [0xFF] 5
  | .pushFF_6 => .member [0xFF] 6
  | .dispatch0F00 => .addressed [0x0F, 0x00]
  | .sldt0F00_0 => .member [0x0F, 0x00] 0
  | .str0F00_1 => .member [0x0F, 0x00] 1
  | .lldt0F00_2 => .member [0x0F, 0x00] 2
  | .ltr0F00_3 => .member [0x0F, 0x00] 3
  | .verr0F00_4 => .member [0x0F, 0x00] 4
  | .verw0F00_5 => .member [0x0F, 0x00] 5
  | .dispatch0F01 => .addressed [0x0F, 0x01]
  | .sgdt0F01_0 => .member [0x0F, 0x01] 0
  | .sidt0F01_1 => .member [0x0F, 0x01] 1
  | .lgdt0F01_2 => .member [0x0F, 0x01] 2
  | .lidt0F01_3 => .member [0x0F, 0x01] 3
  | .smsw0F01_4 => .member [0x0F, 0x01] 4
  | .lmsw0F01_6 => .member [0x0F, 0x01] 6
  | .invlpg0F01_7 => .member [0x0F, 0x01] 7
  | .lar0F02 => .addressed [0x0F, 0x02]
  | .lsl0F03 => .addressed [0x0F, 0x03]
  | .clts0F06 => .plain [0x0F, 0x06]
  | .invd0F08 => .plain [0x0F, 0x08]
  | .wbinvd0F09 => .plain [0x0F, 0x09]
  | .ud20F0B => .plain [0x0F, 0x0B]
  | .nop0F1F => .addressed [0x0F, 0x1F]
  | .movCr0F20 => .addressed [0x0F, 0x20]
  | .movDr0F21 => .addressed [0x0F, 0x21]
  | .movCr0F22 => .addressed [0x0F, 0x22]
  | .movDr0F23 => .addressed [0x0F, 0x23]
  | .wrmsr0F30 => .plain [0x0F, 0x30]
  | .rdtsc0F31 => .plain [0x0F, 0x31]
  | .rdmsr0F32 => .plain [0x0F, 0x32]
  | .rdpmc0F33 => .plain [0x0F, 0x33]
  | .sysenter0F34 => .plain [0x0F, 0x34]
  | .sysexit0F35 => .plain [0x0F, 0x35]
  | .cmovo0F40 => .addressed [0x0F, 0x40]
  | .cmovno0F41 => .addressed [0x0F, 0x41]
  | .cmovb0F42 => .addressed [0x0F, 0x42]
  | .cmovae0F43 => .addressed [0x0F, 0x43]
  | .cmove0F44 => .addressed [0x0F, 0x44]
  | .cmovne0F45 => .addressed [0x0F, 0x45]
  | .cmovbe0F46 => .addressed [0x0F, 0x46]
  | .cmova0F47 => .addressed [0x0F, 0x47]
  | .cmovs0F48 => .addressed [0x0F, 0x48]
  | .cmovns0F49 => .addressed [0x0F, 0x49]
  | .cmovp0F4A => .addressed [0x0F, 0x4A]
  | .cmovnp0F4B => .addressed [0x0F, 0x4B]
  | .cmovl0F4C => .addressed [0x0F, 0x4C]
  | .cmovge0F4D => .addressed [0x0F, 0x4D]
  | .cmovle0F4E => .addressed [0x0F, 0x4E]
  | .cmovg0F4F => .addressed [0x0F, 0x4F]
  | .jo0F80 => .plain [0x0F, 0x80] (some .jv)
  | .jno0F81 => .plain [0x0F, 0x81] (some .jv)
  | .jb0F82 => .plain [0x0F, 0x82] (some .jv)
  | .jae0F83 => .plain [0x0F, 0x83] (some .jv)
  | .je0F84 => .plain [0x0F, 0x84] (some .jv)
  | .jne0F85 => .plain [0x0F, 0x85] (some .jv)
  | .jbe0F86 => .plain [0x0F, 0x86] (some .jv)
  | .ja0F87 => .plain [0x0F, 0x87] (some .jv)
  | .js0F88 => .plain [0x0F, 0x88] (some .jv)
  | .jns0F89 => .plain [0x0F, 0x89] (some .jv)
  | .jp0F8A => .plain [0x0F, 0x8A] (some .jv)
  | .jnp0F8B => .plain [0x0F, 0x8B] (some .jv)
  | .jl0F8C => .plain [0x0F, 0x8C] (some .jv)
  | .jge0F8D => .plain [0x0F, 0x8D] (some .jv)
  | .jle0F8E => .plain [0x0F, 0x8E] (some .jv)
  | .jg0F8F => .plain [0x0F, 0x8F] (some .jv)
  | .seto0F90 => .addressed [0x0F, 0x90]
  | .setno0F91 => .addressed [0x0F, 0x91]
  | .setb0F92 => .addressed [0x0F, 0x92]
  | .setae0F93 => .addressed [0x0F, 0x93]
  | .sete0F94 => .addressed [0x0F, 0x94]
  | .setne0F95 => .addressed [0x0F, 0x95]
  | .setbe0F96 => .addressed [0x0F, 0x96]
  | .seta0F97 => .addressed [0x0F, 0x97]
  | .sets0F98 => .addressed [0x0F, 0x98]
  | .setns0F99 => .addressed [0x0F, 0x99]
  | .setp0F9A => .addressed [0x0F, 0x9A]
  | .setnp0F9B => .addressed [0x0F, 0x9B]
  | .setl0F9C => .addressed [0x0F, 0x9C]
  | .setge0F9D => .addressed [0x0F, 0x9D]
  | .setle0F9E => .addressed [0x0F, 0x9E]
  | .setg0F9F => .addressed [0x0F, 0x9F]
  | .push0FA0 => .plain [0x0F, 0xA0]
  | .pop0FA1 => .plain [0x0F, 0xA1]
  | .cpuid0FA2 => .plain [0x0F, 0xA2]
  | .bt0FA3 => .addressed [0x0F, 0xA3]
  | .shld0FA4 => .addressed [0x0F, 0xA4] (some .ib)
  | .push0FA8 => .plain [0x0F, 0xA8]
  | .pop0FA9 => .plain [0x0F, 0xA9]
  | .rsm0FAA => .plain [0x0F, 0xAA]
  | .bts0FAB => .addressed [0x0F, 0xAB]
  | .shrd0FAC => .addressed [0x0F, 0xAC] (some .ib)
  | .imul0FAF => .addressed [0x0F, 0xAF]
  | .cmpxchg0FB0 => .addressed [0x0F, 0xB0]
  | .cmpxchg0FB1 => .addressed [0x0F, 0xB1]
  | .lss0FB2 => .addressed [0x0F, 0xB2]
  | .btr0FB3 => .addressed [0x0F, 0xB3]
  | .lfs0FB4 => .addressed [0x0F, 0xB4]
  | .lgs0FB5 => .addressed [0x0F, 0xB5]
  | .movzx0FB6 => .addressed [0x0F, 0xB6]
  | .movzx0FB7 => .addressed [0x0F, 0xB7]
  | .dispatch0FBA => .addressed [0x0F, 0xBA]
  | .bt0FBA_4 => .member [0x0F, 0xBA] 4 (some .ib)
  | .bts0FBA_5 => .member [0x0F, 0xBA] 5 (some .ib)
  | .btr0FBA_6 => .member [0x0F, 0xBA] 6 (some .ib)
  | .btc0FBA_7 => .member [0x0F, 0xBA] 7 (some .ib)
  | .btc0FBB => .addressed [0x0F, 0xBB]
  | .bsf0FBC => .addressed [0x0F, 0xBC]
  | .bsr0FBD => .addressed [0x0F, 0xBD]
  | .movsx0FBE => .addressed [0x0F, 0xBE]
  | .movsx0FBF => .addressed [0x0F, 0xBF]
  | .xadd0FC0 => .addressed [0x0F, 0xC0]
  | .xadd0FC1 => .addressed [0x0F, 0xC1]
  | .dispatch0FC7 => .addressed [0x0F, 0xC7]
  | .cmpxchg8b0FC7_1 => .member [0x0F, 0xC7] 1
  | .bswap0FC8 => .lowRegister [0x0F, 0xC8]
  | .xchg66_90 => .plain [0x90]
/-! The decoder. -/

/-- The row a prefix byte is (R112). -/
def prefixOf (b : Byte) : Option Instr :=
  if b = 0xF0 then some .prefixLock
  else if b = 0xF2 then some .prefixRepnz
  else if b = 0xF3 then some .prefixRepz
  else if b = 0x26 then some .prefixEs
  else if b = 0x2E then some .prefixCs
  else if b = 0x36 then some .prefixSs
  else if b = 0x3E then some .prefixDs
  else if b = 0x64 then some .prefixFs
  else if b = 0x65 then some .prefixGs
  else if b = 0x66 then some .prefixOpsize
  else if b = 0x67 then some .prefixAdsize
  else none

/-- The prefix scan (40_decode_pipeline.md R164): the leading prefix rows, and the bytes from the first that is none. -/
def scanPrefixes : List Byte → List Instr × List Byte
  | [] => ([], [])
  | b :: bs =>
    match prefixOf b with
    | some p => (p :: (scanPrefixes bs).1, (scanPrefixes bs).2)
    | none => ([], b :: bs)

/-- What the opcode bytes select, before any operand is read. -/
inductive Selected where
  /-- A row, the last opcode byte, and the bytes after the opcode. `via` are the rows looked up before it: the escape's, the
  group-dispatch entry's. A two-byte opcode whose T2 entry is null, or whose second byte is missing, selects the escape's row; an absent
  group digit, or a missing ModR/M byte, the dispatch entry's. -/
  | row (via : List Instr) (i : Instr) (opb : Byte) (rest : List Byte)
  /-- A one-byte opcode whose T1 entry is null (R171). -/
  | unknownOpcode (b : Byte) (rest : List Byte)
  /-- There is no opcode byte. -/
  | endOfStream
  deriving DecidableEq, Repr

/-- The row of a map's entry: a group entry is resolved by the register field of the ModR/M byte (R174). -/
def selectEntry (via : List Instr) (b : Byte) (rest : List Byte) (absent : Selected) : Entry → Selected
  | .null => absent
  | .row i => .row via i b rest
  | .group key i =>
    match rest with
    | [] => .row via i b rest
    | m :: _ =>
      match tgRow (key * 256 + (midField m).toNat) with
      | some j => .row (via ++ [i]) j b rest
      | none => .row via i b rest

/-- The opcode resolver over REF (R167 to R175). -/
def selectRow (c : SizeCtx) : List Byte → Selected
  | [] => .endOfStream
  | b :: bs =>
    if b = 0x90 ∧ c.opszSeen = true then .row [] .xchg66_90 b bs
    else if b = 0x0F then
      match bs with
      | [] => .row [] .escape0F b bs
      | b2 :: bs' => selectEntry [.escape0F] b2 bs' (.row [] .escape0F b bs) (t2Entry b2.toNat)
    else selectEntry [] b bs (.unknownOpcode b bs) (t1Entry b.toNat)

/-- The immediate-class part of an instruction. -/
def parseImm (c : SizeCtx) (x : Insn) (bs : List Byte) : Option ImmKind → Option (Insn × List Byte)
  | none => some (x, bs)
  | some k =>
    match takeLE (k.bytes c) bs with
    | some (v, rest) => some ({ x with imm := BitVec.ofNat 32 v }, rest)
    | none => none

/-- The addressing form of a row without a ModR/M byte. -/
def Rm.absent : Rm := ⟨0, 0, ⟨0, 0, 0⟩, 0⟩

/-- The parts of a selected row; `none` where the bytes run out. -/
def parseParts (c : SizeCtx) (i : Instr) (opb : Byte) (bs : List Byte) : Option (Insn × List Byte) :=
  if i.shape.modRm then
    match parseRm c.adsize bs with
    | some (r, m, rest) => parseImm c ⟨i, r, m, 0⟩ rest i.shape.imm
    | none => none
  else parseImm c ⟨i, if i.shape.lowReg then lowField opb else 0, Rm.absent, 0⟩ bs i.shape.imm

/-- A decoded byte string: the prefix rows in order, and what follows them. -/
structure Decoded where
  prefixes : List Instr
  selected : Selected
  /-- The instruction with its parts, and the bytes after it; `none` where they run out or no row is selected. -/
  insn : Option (Insn × List Byte)
  deriving DecidableEq, Repr

/-- The size context under given prefix rows (R139). -/
def sizesUnder (defOp defAd : SizeClass) (ps : List Instr) : SizeCtx :=
  ⟨defOp, defAd, ps.contains .prefixOpsize, ps.contains .prefixAdsize⟩

/-- The parts of what was selected. -/
def Selected.parts (c : SizeCtx) : Selected → Option (Insn × List Byte)
  | .row _ i b rest => parseParts c i b rest
  | .unknownOpcode _ _ => none
  | .endOfStream => none

/-- Decodes from the first byte, prefixes included, under the given defaults. -/
def decode (defOp defAd : SizeClass) (bs : List Byte) : Decoded :=
  let ps := (scanPrefixes bs).1
  let c := sizesUnder defOp defAd ps
  let sel := selectRow c (scanPrefixes bs).2
  ⟨ps, sel, sel.parts c⟩

/-! The encoder. -/

/-- The opcode bytes of a row with a register in the last one's low bits. -/
def opcodeBytes : List Byte → BitVec 3 → List Byte
  | [], _ => []
  | [b], r => [regByte b r]
  | b :: bs, r => b :: opcodeBytes bs r

/-- The bytes of an instruction under given sizes, its prefixes not among them (R111). -/
def encode (c : SizeCtx) (x : Insn) : List Byte :=
  opcodeBytes x.row.shape.opcode (if x.row.shape.lowReg then x.reg else 0)
    ++ (if x.row.shape.modRm then encodeRm c.adsize x.reg x.rm else [])
    ++ (match x.row.shape.imm with | some k => leBytes (k.bytes c) x.imm.toNat | none => [])

/-! The table's words (opcode_table.json; log entry 7). -/

/-- The bytes a table word stands for, the most significant first as an OPKEY is composed (R116, R117), a group digit standing in the
register field of a ModR/M byte; and how many lookups its row is behind the first. -/
def tableBytes (w : Nat) : List Byte × Nat :=
  if w < 0x100 then ([BitVec.ofNat 8 w], 0)
  else if w < 0x10000 then
    if w / 256 = 0x0F then ([0x0F, BitVec.ofNat 8 w], 1)
    else ([BitVec.ofNat 8 (w / 256), BitVec.ofNat 8 (w % 8 * 8)], 1)
  else ([0x0F, BitVec.ofNat 8 (w / 256), BitVec.ofNat 8 (w % 8 * 8)], 2)

/-- Zero bytes after a word, as many as the longest instruction without prefixes takes. -/
def zeroBytes : Nat → List Byte
  | 0 => []
  | n + 1 => 0 :: zeroBytes n

/-- The row the decoder reads from a table word under the reset defaults. A word is an OPKEY, not bytes in stream order: `nbits` is not
needed to tell the three key spaces apart (R118). -/
def decodeTableWord (_nbits w : Nat) : Option Instr :=
  match decode .long .long ((tableBytes w).1 ++ zeroBytes Config.maxAfterPrefixes) with
  | ⟨p :: _, _, _⟩ => some p
  | ⟨[], .row via i _ _, _⟩ => (via ++ [i])[(tableBytes w).2]?
  | ⟨[], _, _⟩ => none

end Sys2Proof
end

