-- ==== Sys2Proof/Machine/State.lean ====
section
/-! DEFINITION. The Decode Context as plain data (10_state.md), the schema of the opcode tables (30_encoding.md R126-R128), the
reasons a step can stop, and the state after RESET with the default parameters (70_reset_and_hazards.md R706). -/

namespace Sys2Proof.Machine

/-- The operand-type tags (30_encoding.md R124). `other n` is the code 34 + n, one outside the table (R525 speaks of
one; log entry 20). The codes stand in Machine/Codes.lean. -/
inductive Tag where
  | none | al | eax | cl | dx
  | gb | gw | gv | eb | ew | ev | m | rd
  | sw | cr | dr | seg2 | fs | gs
  | zb | zv | zd
  | ib | iw | il | iv | ibs | ov | jb | jv
  | xb | xv | yb | yv
  | other (code : Nat)
  deriving DecidableEq, Repr

/-- ATT16_BY: which size selects the 16-bit mnemonic (30_encoding.md R126). -/
inductive SizeBy where
  | operand
  | address
  deriving DecidableEq, Repr

/-- SPECIAL: the full-instruction formatter of a descriptor (30_encoding.md R126). -/
inductive Special where
  | none
  | string
  | dtab
  deriving DecidableEq, Repr

/-- An Instruction Descriptor (30_encoding.md R126). -/
structure Desc where
  /-- ID, the operation identity. -/
  id : Nat
  /-- FLAGS, bits named in R127. -/
  flags : BitVec 64
  /-- FIXED_OP. -/
  fixedOp : SizeClass
  /-- FIXED_AD. -/
  fixedAd : SizeClass
  /-- TAGS, in order; a list shorter than four ends where the table pads with NONE. -/
  tags : List Tag
  /-- ATT. -/
  att : String
  /-- ATT16. -/
  att16 : Option String
  /-- ATT16_BY. -/
  att16By : SizeBy
  /-- SPECIAL. -/
  special : Special
  deriving DecidableEq, Repr

/-- One table row: its key and its descriptor. A key that has no row is a null (T1, T2) or absent (TG) entry (R128, R129). -/
abbrev Row := Nat × Desc

/-- OPTABLE = (T1, T2, TG) (00_scope.md R11, 30_encoding.md R128): T1 keyed by the opcode byte, T2 by the byte after 0F, TG by the
group key of R117. -/
structure Tables where
  t1 : List Row
  t2 : List Row
  tg : List Row
  deriving DecidableEq, Repr

/-- Which tables RESET fixed: the reference table REF (the default), or tables of the host's own (00_scope.md R12). -/
inductive OpTable where
  | ref
  | custom (t : Tables)
  deriving DecidableEq, Repr

/-- DESC: "a reference to an entry of T1, T2 or TG, to XCHG66, or null" (10_state.md R56). -/
inductive DescRef where
  | null
  | t1 (b : Byte)
  | t2 (b : Byte)
  | tg (key : Nat)
  | xchg66
  deriving DecidableEq, Repr

/-- The statuses of 60_exceptions.md R602 (their codes: Status.code). -/
inductive Status where
  | ok
  | endOfStream
  | unknownOpcode
  | groupLookupFailed
  | unsupportedAddressing
  | formatRuleGap
  | configAssert
  deriving DecidableEq, Repr

/-- SZOVR: the high nibble is the address size override, the low nibble the operand size override; `none` (code 0) is unset
(10_state.md R63). Szovr.byte is its eight bits; two nibbles with a class are all that R172 can load (log entry 19). -/
structure Szovr where
  ad : SizeClass
  op : SizeClass
  deriving DecidableEq, Repr

/-- The Decoded Instruction record (10_state.md R53-R63). A field that is an Option is one to which R66 or R198 gives the state
"no value". -/
structure Di where
  /-- PFX (R54). -/
  pfx : BitVec 11
  /-- OPSZ_SEEN (R55). -/
  opszSeen : Bool
  /-- ADSZ_SEEN (R55). -/
  adszSeen : Bool
  /-- SZOVR (R63). -/
  szovr : Szovr
  /-- SCALE, 0 when no SIB byte was consumed (R60). -/
  scale : Nat
  /-- DISP_SIZE (R61). -/
  dispSize : SizeClass
  /-- DESC (R56). -/
  desc : Option DescRef
  /-- OPKEY (R57). -/
  opkey : Option Nat
  /-- OPB (R58). -/
  opb : Option Byte
  /-- MOD (R59). -/
  mod : Option (BitVec 2)
  /-- REG (R59). -/
  reg : Option (BitVec 3)
  /-- RM (R59). -/
  rm : Option (BitVec 3)
  /-- INDEX (R60). -/
  index : Option (BitVec 3)
  /-- BASE (R60). -/
  base : Option (BitVec 3)
  /-- DISP (R61). -/
  disp : Option Word
  /-- IMM (R62). -/
  imm : Option Word
  deriving DecidableEq, Repr

/-- What the host can ask of the context (00_scope.md R9), and the one change its surroundings can make to what the block sees
(20_memory.md R97: the source's owner changes a byte between two transactions). -/
inductive Request where
  | decode
  | setD (v : Nat)
  | setPe (v : Nat)
  | setPos (p : Nat)
  | format
  | sourceByte (offset : Nat) (b : Byte)
  deriving DecidableEq, Repr

/-- The pair (FSTATUS, TEXT) that FORMAT returns (49_formatter.md R501). -/
structure FormatReply where
  fstatus : Status
  text : Option String
  deriving DecidableEq, Repr

/-- The byte source's contents: offsets strictly rising, no entry that equals what an unlisted offset reads as. -/
abbrev Memory := List Host.Cell

/-- The Decode Context (10_state.md) with the parameters RESET fixed, and the model's own fields (INVENTORY.md, State). -/
structure State where
  /-- POS (R45). -/
  pos : Nat
  /-- START (R46). -/
  start : Option Nat
  /-- PE (R49). -/
  pe : Bool
  /-- DFLAG (R48). -/
  dflag : Bool
  /-- DEF_OPSIZE (R50). -/
  defOpsize : SizeClass
  /-- DEF_ADSIZE (R50). -/
  defAdsize : SizeClass
  /-- The Decoded Instruction record; `none` until the first DECODE (R705). -/
  di : Option Di
  /-- STATUS (R64); `none` until the first DECODE has ended, and while a DECODE is in progress. -/
  status : Option Status
  /-- SRC, the byte source's contents (20_memory.md R81). -/
  src : Memory
  /-- L, the byte source's length (R81). -/
  srcLen : Nat
  /-- OPTABLE, fixed by RESET (R68). -/
  tables : OpTable
  /-- FIXED_IMM_EXT, fixed by RESET (00_scope.md R11). -/
  immExt : ImmExt
  /-- VBASE, fixed by RESET (00_scope.md R11). -/
  vbase : Nat
  /-- The copy of (DEF_OPSIZE, DEF_ADSIZE) taken at the end of each successful DECODE (49_formatter.md R502). -/
  fmtDefs : Option (SizeClass × SizeClass)
  /-- The refusal mark (60_exceptions.md R607, R611). -/
  refusalMark : Bool
  /-- The fault mark (60_exceptions.md R611). -/
  faultMark : Bool
  /-- The host's pending operations, oldest first (log entry 1). -/
  requests : List Request
  /-- What the last FORMAT returned (log entry 18). -/
  reply : Option FormatReply
  /-- What the last SET_D, SET_PE or SET_POS returned (00_scope.md R9; log entry 24). -/
  setStatus : Option Status
  deriving DecidableEq, Repr

/-- The record fields whose read can find no value (10_state.md R66). -/
inductive Field where
  | start | record | desc | mod | reg | rm | index | base | disp | imm
  deriving DecidableEq, Repr

/-- Why a step stops with a fault. -/
inductive Fault where
  /-- FORMAT read a record field that holds no value (10_state.md R66, 93 I-1: "fault"). Raised by the formatter only. Safe: no
  conforming consumer reaches it, and the block gives no value there. -/
  | noValue (f : Field)
  deriving DecidableEq, Repr

/-- Why the model refuses. -/
inductive Refusal where
  /-- An arm of exec that has no meaning yet. No arm of this model is one. Safe. -/
  | notModelled (mnemonic : String)
  /-- RESET over tables that are not well-formed: "no context is created" (60_exceptions.md R612). Raised by State.create only. Safe. -/
  | illFormedTable
  /-- RESET with INIT_POS above L, or INIT_PE or INIT_D outside 0 and 1 (70_reset_and_hazards.md R701). Raised by State.create only.
  Safe. -/
  | resetArgument
  deriving DecidableEq, Repr

/-- The three outcomes of one step over this state. -/
abbrev Result := Host.Outcome State Fault Refusal

/-- The context right after RESET with the default parameters, over an empty byte source (R706; log entry 5). -/
def State.reset : State where
  pos := 0
  start := none
  pe := true
  dflag := true
  defOpsize := .long
  defAdsize := .long
  di := none
  status := none
  src := []
  srcLen := 0
  tables := .ref
  immExt := .sign
  vbase := 0
  fmtDefs := none
  refusalMark := false
  faultMark := false
  requests := []
  reply := none
  setStatus := none

end Sys2Proof.Machine
end

