-- ==== Sys2Proof/Machine/Ops.lean ====
section
/-! DEFINITION. The operations every meaning is made of: the byte source and the cursor over it (20_memory.md), a DECODE in progress,
raising an error, and the writes to the record that need no descriptor. -/

namespace Sys2Proof.Machine

/-! The byte source (20_memory.md R81, R82). -/

/-- The byte at an offset; an unlisted offset reads as zero (log entry 4). -/
def Memory.read : Memory → Nat → Byte
  | [], _ => 0
  | (a, b) :: m, x => if a = x then b else Memory.read m x

/-- The memory with one byte changed, in canonical form. -/
def Memory.write : Memory → Nat → Byte → Memory
  | [], x, v => if v = 0 then [] else [(x, v)]
  | (a, b) :: m, x, v =>
    if x < a then (if v = 0 then (a, b) :: m else (x, v) :: (a, b) :: m)
    else if x = a then (if v = 0 then m else (x, v) :: m)
    else (a, b) :: Memory.write m x v

/-- Every listed offset is above `lo`, rising, and no listed byte is zero. -/
def Memory.wfFrom : Nat → Memory → Bool
  | _, [] => true
  | lo, (a, b) :: m => decide (lo ≤ a) && b != 0 && Memory.wfFrom (a + 1) m

/-- The canonical form: offsets strictly rising, no entry equal to what an unlisted offset reads as. -/
def Memory.wf (m : Memory) : Bool := Memory.wfFrom 0 m

/-- Bytes written one after another from an offset. -/
def Memory.writeBytes : Memory → Nat → List Byte → Memory
  | m, _, [] => m
  | m, a, b :: bs => Memory.writeBytes (Memory.write m a b) (a + 1) bs

/-- MemRead(a, n): the little-endian unsigned value of n bytes (R82, R89). -/
def Memory.readLE (m : Memory) : Nat → Nat → Nat
  | _, 0 => 0
  | a, n + 1 => (m.read a).toNat + 256 * Memory.readLE m (a + 1) n

/-- n bytes from an offset, in stream order. -/
def Memory.bytes (m : Memory) : Nat → Nat → List Byte
  | _, 0 => []
  | a, n + 1 => m.read a :: Memory.bytes m (a + 1) n

/-- The bytes the source can still supply, Avail(POS) of them (R82). -/
def State.remaining (s : State) : List Byte := s.src.bytes s.pos (s.srcLen - s.pos)

/-! A DECODE in progress. -/

/-- The record as the start of a DECODE leaves it (10_state.md R65, R66; 40_decode_pipeline.md R163; log entry 3). -/
def Di.fresh : Di where
  pfx := 0
  opszSeen := false
  adszSeen := false
  szovr := ⟨.none, .none⟩
  scale := 0
  dispSize := .none
  desc := none
  opkey := none
  opb := none
  mod := none
  reg := none
  rm := none
  index := none
  base := none
  disp := none
  imm := none

/-- A DECODE in progress: the context and the record it is writing. -/
structure Work where
  ctx : State
  di : Di
  deriving DecidableEq, Repr

/-- What a stage of DECODE leaves: the DECODE goes on, or it has ended. -/
inductive Flow where
  | go (w : Work)
  | ended (s : State)
  deriving DecidableEq, Repr

/-- "each only if the previous one did not raise" (R161). -/
def Flow.andThen (f : Flow) (g : Work → Flow) : Flow :=
  match f with
  | .go w => g w
  | .ended s => .ended s

/-- The context after a stage; a DECODE still in progress has no STATUS yet. -/
def Flow.state : Flow → State
  | .go w => { w.ctx with di := some w.di, status := none }
  | .ended s => s

/-- The start of DECODE (R162, R163), unless a prefix row has begun one. -/
def enter (s : State) : Work :=
  match s.status, s.di with
  | none, some d => ⟨s, d⟩
  | _, _ => ⟨{ s with start := some s.pos }, Di.fresh⟩

/-- The statuses of kind fault (60_exceptions.md R602, R611). -/
def Status.isFault : Status → Bool
  | .formatRuleGap => true
  | .configAssert => true
  | _ => false

/-- Raising an error (00_scope.md R19; 60_exceptions.md R601, R611, R614): the DECODE ends with STATUS, everything written so far
stays, POS and START stay where they are; a status of kind fault sets the fault mark. This is the block's whole way of taking an
exception: no vector, no saved state, no mode change; and there is no return from one (R615). -/
def raise (e : Status) (w : Work) : Flow :=
  .ended { w.ctx with di := some w.di, status := some e, faultMark := w.ctx.faultMark || e.isFault }

/-- The cursor's advance by n (20_memory.md R83 to R85): a width outside 1, 2 and 4 raises CONFIG_ASSERT, a short source
END_OF_STREAM, and neither moves POS. -/
def advance (n : Nat) (w : Work) : Flow :=
  if n = 1 ∨ n = 2 ∨ n = 4 then
    if w.ctx.pos + n ≤ w.ctx.srcLen then .go ⟨{ w.ctx with pos := w.ctx.pos + n }, w.di⟩
    else raise .endOfStream w
  else raise .configAssert w

/-- Read(n) (R83). -/
def readN (n : Nat) (w : Work) (k : Nat → Work → Flow) : Flow :=
  (advance n w).andThen (k (w.ctx.src.readLE w.ctx.pos n))

/-- Read(1), as a byte. -/
def readByte (w : Work) (k : Byte → Work → Flow) : Flow :=
  readN 1 w fun v => k (BitVec.ofNat 8 v)

/-- StepBack() (R86). -/
def stepBack (w : Work) : Work := ⟨{ w.ctx with pos := w.ctx.pos - 1 }, w.di⟩

/-! Writes to the record. -/

/-- The record changed. -/
def Work.setDi (w : Work) (d : Di) : Work := ⟨w.ctx, d⟩

/-- Prefix recording (R165): PFX bit i, and the seen flag of the two size overrides (30_encoding.md R112: bits 9 and 10). -/
def recordPrefix (i : Nat) (w : Work) : Work :=
  w.setDi { w.di with
    pfx := w.di.pfx ||| (1#11 <<< i)
    opszSeen := w.di.opszSeen || i == 9
    adszSeen := w.di.adszSeen || i == 10 }

/-- OPB <- b (10_state.md R58). -/
def latchOpcode (b : Byte) (w : Work) : Work := w.setDi { w.di with opb := some b }

/-- A lookup that found nothing: OPKEY holds the key that failed and DESC is null (R56, R57, R171, R175). -/
def lookupFailed (key : Nat) (e : Status) (w : Work) : Flow :=
  raise e (w.setDi { w.di with opkey := some key, desc := some .null })

/-- Success (R197), with the copy of the defaults that FORMAT compares (49_formatter.md R502). -/
def complete (w : Work) : Flow :=
  .ended { w.ctx with
    di := some w.di
    status := some .ok
    fmtDefs := some (w.ctx.defOpsize, w.ctx.defAdsize) }

end Sys2Proof.Machine
end

