-- ==== Sys2Proof/Machine/Flags.lean ====
section
/-! DEFINITION. The block's flags: the descriptor's FLAGS bits (30_encoding.md R127) and the PFX bits (R112, R113), and the sizes that
they decide (40_decode_pipeline.md R172, R192 to R196). The block writes no x86 status flag (10_state.md R67). -/

namespace Sys2Proof.Machine

/-- MODRM, bit 0. -/
def Desc.modRm (d : Desc) : Bool := d.flags.getLsbD 0

/-- GROUP, bit 1. -/
def Desc.group (d : Desc) : Bool := d.flags.getLsbD 1

/-- OPSZ_FIXED, bit 2. -/
def Desc.opszFixed (d : Desc) : Bool := d.flags.getLsbD 2

/-- ADSZ_FIXED, bit 3. -/
def Desc.adszFixed (d : Desc) : Bool := d.flags.getLsbD 3

/-- SUFFIX, bit 4. -/
def Desc.suffix (d : Desc) : Bool := d.flags.getLsbD 4

/-- SPECIAL_FMT, bit 5. -/
def Desc.specialFmt (d : Desc) : Bool := d.flags.getLsbD 5

/-- INDIRECT, bit 6. -/
def Desc.indirect (d : Desc) : Bool := d.flags.getLsbD 6

/-- The PFX bit of a prefix byte (R112). -/
def prefixBit (b : Byte) : Option Nat :=
  if b = 0xF0 then some 0
  else if b = 0xF2 then some 1
  else if b = 0xF3 then some 2
  else if b = 0x26 then some 3
  else if b = 0x2E then some 4
  else if b = 0x36 then some 5
  else if b = 0x3E then some 6
  else if b = 0x64 then some 7
  else if b = 0x65 then some 8
  else if b = 0x66 then some 9
  else if b = 0x67 then some 10
  else none

/-- The default of both sizes (10_state.md R50). -/
def defaultSize (pe dflag : Bool) : SizeClass := if pe && dflag then .long else .word

/-- The SZOVR load (R172). -/
def Desc.szovr (d : Desc) : Szovr :=
  ⟨if d.adszFixed then d.fixedAd else .none, if d.opszFixed then d.fixedOp else .none⟩

/-- opsize() (R193). -/
def opsize (d : Desc) (w : Work) : SizeClass :=
  if d.opszFixed = true ∧ w.di.szovr.op ≠ .none then w.di.szovr.op
  else if w.di.opszSeen then sizeInv w.ctx.defOpsize
  else w.ctx.defOpsize

/-- adsize() (R194). -/
def adsize (d : Desc) (w : Work) : SizeClass :=
  if d.adszFixed = true ∧ w.di.szovr.ad ≠ .none then w.di.szovr.ad
  else if w.di.adszSeen then sizeInv w.ctx.defAdsize
  else w.ctx.defAdsize

/-- The width of a read of bytes(s) bytes; a size without a byte count gives 0, a width no read has (R85, R192; log entry 11). -/
def readWidth (s : SizeClass) : Nat := (sizeBytes s).getD 0

end Sys2Proof.Machine
end

