-- ==== Sys2Proof/Machine/Tables.lean ====
section
/-! DEFINITION. The opcode tables as data: the tag vocabulary's columns (30_encoding.md R124), lookups (R128, R129), and the
well-formedness conditions W1 to W12 (R130). -/

namespace Sys2Proof.Machine

/-- The intrinsic size class of a tag (R125, the column "size class" of R124). A code outside the vocabulary has none. -/
def Tag.sizeClass : Tag → SizeClass
  | .none => .none
  | .al => .byte
  | .eax => .full
  | .cl => .byte
  | .dx => .word
  | .gb => .byte
  | .gw => .word
  | .gv => .full
  | .eb => .byte
  | .ew => .word
  | .ev => .full
  | .m => .none
  | .rd => .long
  | .sw => .word
  | .cr => .long
  | .dr => .long
  | .seg2 => .word
  | .fs => .word
  | .gs => .word
  | .zb => .byte
  | .zv => .full
  | .zd => .long
  | .ib => .byte
  | .iw => .word
  | .il => .long
  | .iv => .full
  | .ibs => .byte
  | .ov => .full
  | .jb => .byte
  | .jv => .full
  | .xb => .byte
  | .xv => .full
  | .yb => .byte
  | .yv => .full
  | .other _ => .none

/-- The tag is an immediate-class tag (R124). -/
def Tag.immediate : Tag → Bool
  | .ib | .iw | .il | .iv | .ibs | .ov | .jb | .jv => true
  | _ => false

/-- The tag writes REG (R124). -/
def Tag.writesReg : Tag → Bool
  | .al | .eax | .cl | .dx | .seg2 | .fs | .gs | .zb | .zv | .zd | .yb | .yv => true
  | _ => false

/-- The tag reads the ModR/M register field (R124). -/
def Tag.readsReg : Tag → Bool
  | .gb | .gw | .gv | .sw | .cr | .dr => true
  | _ => false

/-- The tag reads the register-or-memory operand (R124). -/
def Tag.readsRm : Tag → Bool
  | .eb | .ew | .ev | .m | .rd => true
  | _ => false

/-- The tag's text names REG, written from an opcode byte or a fixed code (W8). -/
def Tag.needsReg : Tag → Bool
  | .zb | .zv | .zd | .seg2 | .fs | .gs => true
  | _ => false

/-- The tags before the first NONE (R126, R182). DESIGN CHOICE (log entry 25): they are the tags that W2 to W4, W8 and W9 count, R130 not
saying whether a tag behind the first NONE counts. -/
def Desc.operands (d : Desc) : List Tag := d.tags.takeWhile (· != .none)

/-- The descriptor at a key. -/
def rowAt : List Row → Nat → Option Desc
  | [], _ => none
  | (k, d) :: rows, x => if k = x then some d else rowAt rows x

/-- Keys strictly rising from `lo` and below `hi`: a map. -/
def rowsRising (lo hi : Nat) : List Row → Bool
  | [] => true
  | (k, _) :: rows => decide (lo ≤ k) && decide (k < hi) && rowsRising (k + 1) hi rows

/-- W8: a tag whose text names REG is the last tag that writes REG. -/
def regTagsLast : List Tag → Bool
  | [] => true
  | t :: ts => (!t.needsReg || ts.all fun u => !u.writesReg) && regTagsLast ts

/-- W1 to W5, W7 to W10 and W12 of one descriptor. -/
def Desc.wf (d : Desc) : Bool :=
  (!d.group || d.modRm)                                                                    -- W1
  && decide ((d.operands.filter Tag.immediate).length ≤ 1)                                 -- W2
  && !(d.operands.any Tag.readsReg && d.operands.any Tag.writesReg)                        -- W3
  && (!(d.operands.any fun t => t.readsReg || t.readsRm) || d.modRm)                       -- W4
  && (!d.opszFixed || [SizeClass.byte, .word, .long, .quad].contains d.fixedOp)            -- W5
  && (!d.adszFixed || [SizeClass.word, .long].contains d.fixedAd)                          -- W5
  && decide (d.tags.length ≤ Config.maxTags)                                               -- W7
  && regTagsLast d.operands                                                                -- W8
  && !(d.fixedOp == .quad && d.operands.contains .iv)                                      -- W9, OPSZ_FIXED set or not
  && (!(d.suffix || d.indirect) || d.modRm)                                                -- W10
  && decide (d.flags.toNat < 128)                                                          -- W12

/-- The primary descriptor of a group key (W6): T1 at key div 256, or T2 at its low byte for the key of a two-byte opcode (R117,
R118). -/
def Tables.primaryOf (t : Tables) (key : Nat) : Option Desc :=
  if key < 0x10000 then rowAt t.t1 (key / 256)
  else if 0x0F0000 ≤ key ∧ key < 0x100000 then rowAt t.t2 (key / 256 % 256)
  else none

/-- W6 of one TG row; the digit is a register field (R117). -/
def Tables.memberWf (t : Tables) (r : Row) : Bool :=
  !r.2.group && decide (r.1 % 256 < 8)
  && match t.primaryOf r.1 with
    | some p => p.group && r.2.adszFixed == p.adszFixed && r.2.fixedAd == p.fixedAd
    | none => false

/-- The bytes that never reach T1 (W11). -/
def neverT1 (k : Nat) : Bool := k == 0x0F || (prefixBit (BitVec.ofNat 8 k)).isSome

/-- The tables are maps and satisfy W1 to W12 (R130; log entry 22). -/
def Tables.wf (t : Tables) : Bool :=
  rowsRising 0 256 t.t1 && rowsRising 0 256 t.t2 && rowsRising 0 0x100000 t.tg
  && t.t1.all (fun r => r.2.wf && !neverT1 r.1)
  && t.t2.all (fun r => r.2.wf)
  && t.tg.all (fun r => r.2.wf && t.memberWf r)

/-- The descriptor a reference names; XCHG66 is built in (R128). -/
def DescRef.resolve (t : Tables) (xchg66 : Desc) : DescRef → Option Desc
  | .null => none
  | .t1 b => rowAt t.t1 b.toNat
  | .t2 b => rowAt t.t2 b.toNat
  | .tg k => rowAt t.tg k
  | .xchg66 => some xchg66

end Sys2Proof.Machine
end

