-- ==== Sys2Proof/Machine/RefTable.lean ====
section
/-! DEFINITION. The reference table REF (30_encoding.md R131, section 10; opcode_table.json): one descriptor per row, and the maps T1,
T2 and TG. The FLAGS word is written as the table writes it (R127); `fixedOp` is the FIXED_OP of the rows with OPSZ_FIXED. -/

namespace Sys2Proof.Machine

/-- A descriptor of REF: no row has a fixed address size. -/
def refDesc (id : Nat) (flags : BitVec 64) (fixedOp : SizeClass) (tags : List Tag) (att : String)
    (att16 : Option String := none) (att16By : SizeBy := .operand) (special : Special := .none) : Desc where
  id := id
  flags := flags
  fixedOp := fixedOp
  fixedAd := .none
  tags := tags
  att := att
  att16 := att16
  att16By := att16By
  special := special

/-- `add`: 00 /r (R301). -/
def Ref.add00 : Desc := refDesc 1 0x5 .byte [.eb, .gb] "add"
/-- `add`: 01 /r (R301). -/
def Ref.add01 : Desc := refDesc 1 0x1 .none [.ev, .gv] "add"
/-- `add`: 02 /r (R301). -/
def Ref.add02 : Desc := refDesc 1 0x5 .byte [.gb, .eb] "add"
/-- `add`: 03 /r (R301). -/
def Ref.add03 : Desc := refDesc 1 0x1 .none [.gv, .ev] "add"
/-- `add`: 04 ib (R301). -/
def Ref.add04 : Desc := refDesc 1 0x4 .byte [.al, .ib] "add"
/-- `add`: 05 iv (R301). -/
def Ref.add05 : Desc := refDesc 1 0x0 .none [.eax, .iv] "add"
/-- `or`: 08 /r (R302). -/
def Ref.or08 : Desc := refDesc 2 0x5 .byte [.eb, .gb] "or"
/-- `or`: 09 /r (R302). -/
def Ref.or09 : Desc := refDesc 2 0x1 .none [.ev, .gv] "or"
/-- `or`: 0a /r (R302). -/
def Ref.or0A : Desc := refDesc 2 0x5 .byte [.gb, .eb] "or"
/-- `or`: 0b /r (R302). -/
def Ref.or0B : Desc := refDesc 2 0x1 .none [.gv, .ev] "or"
/-- `or`: 0c ib (R302). -/
def Ref.or0C : Desc := refDesc 2 0x4 .byte [.al, .ib] "or"
/-- `or`: 0d iv (R302). -/
def Ref.or0D : Desc := refDesc 2 0x0 .none [.eax, .iv] "or"
/-- `adc`: 10 /r (R303). -/
def Ref.adc10 : Desc := refDesc 3 0x5 .byte [.eb, .gb] "adc"
/-- `adc`: 11 /r (R303). -/
def Ref.adc11 : Desc := refDesc 3 0x1 .none [.ev, .gv] "adc"
/-- `adc`: 12 /r (R303). -/
def Ref.adc12 : Desc := refDesc 3 0x5 .byte [.gb, .eb] "adc"
/-- `adc`: 13 /r (R303). -/
def Ref.adc13 : Desc := refDesc 3 0x1 .none [.gv, .ev] "adc"
/-- `adc`: 14 ib (R303). -/
def Ref.adc14 : Desc := refDesc 3 0x4 .byte [.al, .ib] "adc"
/-- `adc`: 15 iv (R303). -/
def Ref.adc15 : Desc := refDesc 3 0x0 .none [.eax, .iv] "adc"
/-- `sbb`: 18 /r (R304). -/
def Ref.sbb18 : Desc := refDesc 4 0x5 .byte [.eb, .gb] "sbb"
/-- `sbb`: 19 /r (R304). -/
def Ref.sbb19 : Desc := refDesc 4 0x1 .none [.ev, .gv] "sbb"
/-- `sbb`: 1a /r (R304). -/
def Ref.sbb1A : Desc := refDesc 4 0x5 .byte [.gb, .eb] "sbb"
/-- `sbb`: 1b /r (R304). -/
def Ref.sbb1B : Desc := refDesc 4 0x1 .none [.gv, .ev] "sbb"
/-- `sbb`: 1c ib (R304). -/
def Ref.sbb1C : Desc := refDesc 4 0x4 .byte [.al, .ib] "sbb"
/-- `sbb`: 1d iv (R304). -/
def Ref.sbb1D : Desc := refDesc 4 0x0 .none [.eax, .iv] "sbb"
/-- `and`: 20 /r (R305). -/
def Ref.and20 : Desc := refDesc 5 0x5 .byte [.eb, .gb] "and"
/-- `and`: 21 /r (R305). -/
def Ref.and21 : Desc := refDesc 5 0x1 .none [.ev, .gv] "and"
/-- `and`: 22 /r (R305). -/
def Ref.and22 : Desc := refDesc 5 0x5 .byte [.gb, .eb] "and"
/-- `and`: 23 /r (R305). -/
def Ref.and23 : Desc := refDesc 5 0x1 .none [.gv, .ev] "and"
/-- `and`: 24 ib (R305). -/
def Ref.and24 : Desc := refDesc 5 0x4 .byte [.al, .ib] "and"
/-- `and`: 25 iv (R305). -/
def Ref.and25 : Desc := refDesc 5 0x0 .none [.eax, .iv] "and"
/-- `sub`: 28 /r (R306). -/
def Ref.sub28 : Desc := refDesc 6 0x5 .byte [.eb, .gb] "sub"
/-- `sub`: 29 /r (R306). -/
def Ref.sub29 : Desc := refDesc 6 0x1 .none [.ev, .gv] "sub"
/-- `sub`: 2a /r (R306). -/
def Ref.sub2A : Desc := refDesc 6 0x5 .byte [.gb, .eb] "sub"
/-- `sub`: 2b /r (R306). -/
def Ref.sub2B : Desc := refDesc 6 0x1 .none [.gv, .ev] "sub"
/-- `sub`: 2c ib (R306). -/
def Ref.sub2C : Desc := refDesc 6 0x4 .byte [.al, .ib] "sub"
/-- `sub`: 2d iv (R306). -/
def Ref.sub2D : Desc := refDesc 6 0x0 .none [.eax, .iv] "sub"
/-- `xor`: 30 /r (R307). -/
def Ref.xor30 : Desc := refDesc 7 0x5 .byte [.eb, .gb] "xor"
/-- `xor`: 31 /r (R307). -/
def Ref.xor31 : Desc := refDesc 7 0x1 .none [.ev, .gv] "xor"
/-- `xor`: 32 /r (R307). -/
def Ref.xor32 : Desc := refDesc 7 0x5 .byte [.gb, .eb] "xor"
/-- `xor`: 33 /r (R307). -/
def Ref.xor33 : Desc := refDesc 7 0x1 .none [.gv, .ev] "xor"
/-- `xor`: 34 ib (R307). -/
def Ref.xor34 : Desc := refDesc 7 0x4 .byte [.al, .ib] "xor"
/-- `xor`: 35 iv (R307). -/
def Ref.xor35 : Desc := refDesc 7 0x0 .none [.eax, .iv] "xor"
/-- `cmp`: 38 /r (R308). -/
def Ref.cmp38 : Desc := refDesc 8 0x5 .byte [.eb, .gb] "cmp"
/-- `cmp`: 39 /r (R308). -/
def Ref.cmp39 : Desc := refDesc 8 0x1 .none [.ev, .gv] "cmp"
/-- `cmp`: 3a /r (R308). -/
def Ref.cmp3A : Desc := refDesc 8 0x5 .byte [.gb, .eb] "cmp"
/-- `cmp`: 3b /r (R308). -/
def Ref.cmp3B : Desc := refDesc 8 0x1 .none [.gv, .ev] "cmp"
/-- `cmp`: 3c ib (R308). -/
def Ref.cmp3C : Desc := refDesc 8 0x4 .byte [.al, .ib] "cmp"
/-- `cmp`: 3d iv (R308). -/
def Ref.cmp3D : Desc := refDesc 8 0x0 .none [.eax, .iv] "cmp"
/-- `push`: 06 (R359). -/
def Ref.push06 : Desc := refDesc 59 0x0 .none [.seg2] "push"
/-- `push`: 0e (R359). -/
def Ref.push0E : Desc := refDesc 59 0x0 .none [.seg2] "push"
/-- `push`: 16 (R359). -/
def Ref.push16 : Desc := refDesc 59 0x0 .none [.seg2] "push"
/-- `push`: 1e (R359). -/
def Ref.push1E : Desc := refDesc 59 0x0 .none [.seg2] "push"
/-- `pop`: 07 (R360). -/
def Ref.pop07 : Desc := refDesc 60 0x0 .none [.seg2] "pop"
/-- `pop`: 17 (R360). -/
def Ref.pop17 : Desc := refDesc 60 0x0 .none [.seg2] "pop"
/-- `pop`: 1f (R360). -/
def Ref.pop1F : Desc := refDesc 60 0x0 .none [.seg2] "pop"
/-- `daa`: 27 (R309). -/
def Ref.daa27 : Desc := refDesc 9 0x0 .none [] "daa"
/-- `das`: 2f (R310). -/
def Ref.das2F : Desc := refDesc 10 0x0 .none [] "das"
/-- `aaa`: 37 (R311). -/
def Ref.aaa37 : Desc := refDesc 11 0x0 .none [] "aaa"
/-- `aas`: 3f (R312). -/
def Ref.aas3F : Desc := refDesc 12 0x0 .none [] "aas"
/-- `inc`: 40+r (R313). -/
def Ref.inc40 : Desc := refDesc 13 0x0 .none [.zv] "inc"
/-- `dec`: 48+r (R314). -/
def Ref.dec48 : Desc := refDesc 14 0x0 .none [.zv] "dec"
/-- `push`: 50+r (R359). -/
def Ref.push50 : Desc := refDesc 59 0x0 .none [.zv] "push"
/-- `pop`: 58+r (R360). -/
def Ref.pop58 : Desc := refDesc 60 0x0 .none [.zv] "pop"
/-- `pusha`: 60 (R361). -/
def Ref.pusha60 : Desc := refDesc 61 0x0 .none [] "pusha" (some "pushaw")
/-- `popa`: 61 (R362). -/
def Ref.popa61 : Desc := refDesc 62 0x0 .none [] "popa" (some "popaw")
/-- `bound`: 62 /r (R432). -/
def Ref.bound62 : Desc := refDesc 132 0x1 .none [.gv, .m] "bound"
/-- `arpl`: 63 /r (R433). -/
def Ref.arpl63 : Desc := refDesc 133 0x1 .none [.ew, .gw] "arpl"
/-- `push`: 68 iv (R359). -/
def Ref.push68 : Desc := refDesc 59 0x0 .none [.iv] "push"
/-- `imul`: 69 /r iv (R315). -/
def Ref.imul69 : Desc := refDesc 15 0x1 .none [.gv, .ev, .iv] "imul"
/-- `push`: 6a ib(s) (R359). -/
def Ref.push6A : Desc := refDesc 59 0x0 .none [.ibs] "push"
/-- `imul`: 6b /r ib(s) (R315). -/
def Ref.imul6B : Desc := refDesc 15 0x1 .none [.gv, .ev, .ibs] "imul"
/-- `ins`: 6c (R423). -/
def Ref.ins6C : Desc := refDesc 123 0x24 .byte [.yb, .dx] "ins" none .operand .string
/-- `ins`: 6d (R423). -/
def Ref.ins6D : Desc := refDesc 123 0x20 .none [.yv, .dx] "ins" none .operand .string
/-- `outs`: 6e (R424). -/
def Ref.outs6E : Desc := refDesc 124 0x24 .byte [.dx, .xb] "outs" none .operand .string
/-- `outs`: 6f (R424). -/
def Ref.outs6F : Desc := refDesc 124 0x20 .none [.dx, .xv] "outs" none .operand .string
/-- `jo`: 70 cb (R393). -/
def Ref.jo70 : Desc := refDesc 93 0x0 .none [.jb] "jo"
/-- `jno`: 71 cb (R394). -/
def Ref.jno71 : Desc := refDesc 94 0x0 .none [.jb] "jno"
/-- `jb`: 72 cb (R395). -/
def Ref.jb72 : Desc := refDesc 95 0x0 .none [.jb] "jb"
/-- `jae`: 73 cb (R396). -/
def Ref.jae73 : Desc := refDesc 96 0x0 .none [.jb] "jae"
/-- `je`: 74 cb (R397). -/
def Ref.je74 : Desc := refDesc 97 0x0 .none [.jb] "je"
/-- `jne`: 75 cb (R398). -/
def Ref.jne75 : Desc := refDesc 98 0x0 .none [.jb] "jne"
/-- `jbe`: 76 cb (R399). -/
def Ref.jbe76 : Desc := refDesc 99 0x0 .none [.jb] "jbe"
/-- `ja`: 77 cb (R400). -/
def Ref.ja77 : Desc := refDesc 100 0x0 .none [.jb] "ja"
/-- `js`: 78 cb (R401). -/
def Ref.js78 : Desc := refDesc 101 0x0 .none [.jb] "js"
/-- `jns`: 79 cb (R402). -/
def Ref.jns79 : Desc := refDesc 102 0x0 .none [.jb] "jns"
/-- `jp`: 7a cb (R403). -/
def Ref.jp7A : Desc := refDesc 103 0x0 .none [.jb] "jp"
/-- `jnp`: 7b cb (R404). -/
def Ref.jnp7B : Desc := refDesc 104 0x0 .none [.jb] "jnp"
/-- `jl`: 7c cb (R405). -/
def Ref.jl7C : Desc := refDesc 105 0x0 .none [.jb] "jl"
/-- `jge`: 7d cb (R406). -/
def Ref.jge7D : Desc := refDesc 106 0x0 .none [.jb] "jge"
/-- `jle`: 7e cb (R407). -/
def Ref.jle7E : Desc := refDesc 107 0x0 .none [.jb] "jle"
/-- `jg`: 7f cb (R408). -/
def Ref.jg7F : Desc := refDesc 108 0x0 .none [.jb] "jg"
/-- `dispatch.group1`: 80 /r (R174). -/
def Ref.dispatch80 : Desc := refDesc 0 0x3 .none [] ""
/-- `add`: 80 /0 ib (R301). -/
def Ref.add80_0 : Desc := refDesc 1 0x15 .byte [.eb, .ib] "add"
/-- `or`: 80 /1 ib (R302). -/
def Ref.or80_1 : Desc := refDesc 2 0x15 .byte [.eb, .ib] "or"
/-- `adc`: 80 /2 ib (R303). -/
def Ref.adc80_2 : Desc := refDesc 3 0x15 .byte [.eb, .ib] "adc"
/-- `sbb`: 80 /3 ib (R304). -/
def Ref.sbb80_3 : Desc := refDesc 4 0x15 .byte [.eb, .ib] "sbb"
/-- `and`: 80 /4 ib (R305). -/
def Ref.and80_4 : Desc := refDesc 5 0x15 .byte [.eb, .ib] "and"
/-- `sub`: 80 /5 ib (R306). -/
def Ref.sub80_5 : Desc := refDesc 6 0x15 .byte [.eb, .ib] "sub"
/-- `xor`: 80 /6 ib (R307). -/
def Ref.xor80_6 : Desc := refDesc 7 0x15 .byte [.eb, .ib] "xor"
/-- `cmp`: 80 /7 ib (R308). -/
def Ref.cmp80_7 : Desc := refDesc 8 0x15 .byte [.eb, .ib] "cmp"
/-- `dispatch.group1`: 81 /r (R174). -/
def Ref.dispatch81 : Desc := refDesc 0 0x3 .none [] ""
/-- `add`: 81 /0 iv (R301). -/
def Ref.add81_0 : Desc := refDesc 1 0x11 .none [.ev, .iv] "add"
/-- `or`: 81 /1 iv (R302). -/
def Ref.or81_1 : Desc := refDesc 2 0x11 .none [.ev, .iv] "or"
/-- `adc`: 81 /2 iv (R303). -/
def Ref.adc81_2 : Desc := refDesc 3 0x11 .none [.ev, .iv] "adc"
/-- `sbb`: 81 /3 iv (R304). -/
def Ref.sbb81_3 : Desc := refDesc 4 0x11 .none [.ev, .iv] "sbb"
/-- `and`: 81 /4 iv (R305). -/
def Ref.and81_4 : Desc := refDesc 5 0x11 .none [.ev, .iv] "and"
/-- `sub`: 81 /5 iv (R306). -/
def Ref.sub81_5 : Desc := refDesc 6 0x11 .none [.ev, .iv] "sub"
/-- `xor`: 81 /6 iv (R307). -/
def Ref.xor81_6 : Desc := refDesc 7 0x11 .none [.ev, .iv] "xor"
/-- `cmp`: 81 /7 iv (R308). -/
def Ref.cmp81_7 : Desc := refDesc 8 0x11 .none [.ev, .iv] "cmp"
/-- `dispatch.group1`: 82 /r (R174). -/
def Ref.dispatch82 : Desc := refDesc 0 0x3 .none [] ""
/-- `add`: 82 /0 ib (R301). -/
def Ref.add82_0 : Desc := refDesc 1 0x15 .byte [.eb, .ib] "add"
/-- `or`: 82 /1 ib (R302). -/
def Ref.or82_1 : Desc := refDesc 2 0x15 .byte [.eb, .ib] "or"
/-- `adc`: 82 /2 ib (R303). -/
def Ref.adc82_2 : Desc := refDesc 3 0x15 .byte [.eb, .ib] "adc"
/-- `sbb`: 82 /3 ib (R304). -/
def Ref.sbb82_3 : Desc := refDesc 4 0x15 .byte [.eb, .ib] "sbb"
/-- `and`: 82 /4 ib (R305). -/
def Ref.and82_4 : Desc := refDesc 5 0x15 .byte [.eb, .ib] "and"
/-- `sub`: 82 /5 ib (R306). -/
def Ref.sub82_5 : Desc := refDesc 6 0x15 .byte [.eb, .ib] "sub"
/-- `xor`: 82 /6 ib (R307). -/
def Ref.xor82_6 : Desc := refDesc 7 0x15 .byte [.eb, .ib] "xor"
/-- `cmp`: 82 /7 ib (R308). -/
def Ref.cmp82_7 : Desc := refDesc 8 0x15 .byte [.eb, .ib] "cmp"
/-- `dispatch.group1`: 83 /r (R174). -/
def Ref.dispatch83 : Desc := refDesc 0 0x3 .none [] ""
/-- `add`: 83 /0 ib(s) (R301). -/
def Ref.add83_0 : Desc := refDesc 1 0x11 .none [.ev, .ibs] "add"
/-- `or`: 83 /1 ib(s) (R302). -/
def Ref.or83_1 : Desc := refDesc 2 0x11 .none [.ev, .ibs] "or"
/-- `adc`: 83 /2 ib(s) (R303). -/
def Ref.adc83_2 : Desc := refDesc 3 0x11 .none [.ev, .ibs] "adc"
/-- `sbb`: 83 /3 ib(s) (R304). -/
def Ref.sbb83_3 : Desc := refDesc 4 0x11 .none [.ev, .ibs] "sbb"
/-- `and`: 83 /4 ib(s) (R305). -/
def Ref.and83_4 : Desc := refDesc 5 0x11 .none [.ev, .ibs] "and"
/-- `sub`: 83 /5 ib(s) (R306). -/
def Ref.sub83_5 : Desc := refDesc 6 0x11 .none [.ev, .ibs] "sub"
/-- `xor`: 83 /6 ib(s) (R307). -/
def Ref.xor83_6 : Desc := refDesc 7 0x11 .none [.ev, .ibs] "xor"
/-- `cmp`: 83 /7 ib(s) (R308). -/
def Ref.cmp83_7 : Desc := refDesc 8 0x11 .none [.ev, .ibs] "cmp"
/-- `test`: 84 /r (R316). -/
def Ref.test84 : Desc := refDesc 16 0x5 .byte [.eb, .gb] "test"
/-- `test`: 85 /r (R316). -/
def Ref.test85 : Desc := refDesc 16 0x1 .none [.ev, .gv] "test"
/-- `xchg`: 86 /r (R363). -/
def Ref.xchg86 : Desc := refDesc 63 0x5 .byte [.eb, .gb] "xchg"
/-- `xchg`: 87 /r (R363). -/
def Ref.xchg87 : Desc := refDesc 63 0x1 .none [.ev, .gv] "xchg"
/-- `mov`: 88 /r (R364). -/
def Ref.mov88 : Desc := refDesc 64 0x5 .byte [.eb, .gb] "mov"
/-- `mov`: 89 /r (R364). -/
def Ref.mov89 : Desc := refDesc 64 0x1 .none [.ev, .gv] "mov"
/-- `mov`: 8a /r (R364). -/
def Ref.mov8A : Desc := refDesc 64 0x5 .byte [.gb, .eb] "mov"
/-- `mov`: 8b /r (R364). -/
def Ref.mov8B : Desc := refDesc 64 0x1 .none [.gv, .ev] "mov"
/-- `mov`: 8c /r (R364). -/
def Ref.mov8C : Desc := refDesc 64 0x1 .none [.ev, .sw] "mov"
/-- `lea`: 8d /r (R365). -/
def Ref.lea8D : Desc := refDesc 65 0x1 .none [.gv, .m] "lea"
/-- `mov`: 8e /r (R364). -/
def Ref.mov8E : Desc := refDesc 64 0x1 .none [.sw, .ev] "mov"
/-- `dispatch.group1a`: 8f /r (R174). -/
def Ref.dispatch8F : Desc := refDesc 0 0x3 .none [] ""
/-- `pop`: 8f /0 (R360). -/
def Ref.pop8F_0 : Desc := refDesc 60 0x11 .none [.ev] "pop"
/-- `nop`: 90 (R466). -/
def Ref.nop90 : Desc := refDesc 166 0x0 .none [] "nop"
/-- `xchg`: 91+r (91..97) (R363). -/
def Ref.xchg91 : Desc := refDesc 63 0x0 .none [.eax, .zv] "xchg"
/-- `cwde`: 98 (R366). -/
def Ref.cwde98 : Desc := refDesc 66 0x0 .none [] "cwtl" (some "cbtw")
/-- `cdq`: 99 (R367). -/
def Ref.cdq99 : Desc := refDesc 67 0x0 .none [] "cltd" (some "cwtd")
/-- `fwait`: 9b (R467). -/
def Ref.fwait9B : Desc := refDesc 167 0x0 .none [] "fwait"
/-- `pushf`: 9c (R468). -/
def Ref.pushf9C : Desc := refDesc 168 0x0 .none [] "pushf" (some "pushfw")
/-- `popf`: 9d (R469). -/
def Ref.popf9D : Desc := refDesc 169 0x0 .none [] "popf" (some "popfw")
/-- `sahf`: 9e (R470). -/
def Ref.sahf9E : Desc := refDesc 170 0x0 .none [] "sahf"
/-- `lahf`: 9f (R471). -/
def Ref.lahf9F : Desc := refDesc 171 0x0 .none [] "lahf"
/-- `mov`: a0 mo(ad) (R364). -/
def Ref.movA0 : Desc := refDesc 64 0x4 .byte [.al, .ov] "mov"
/-- `mov`: a1 mo(ad) (R364). -/
def Ref.movA1 : Desc := refDesc 64 0x0 .none [.eax, .ov] "mov"
/-- `mov`: a2 mo(ad) (R364). -/
def Ref.movA2 : Desc := refDesc 64 0x4 .byte [.ov, .al] "mov"
/-- `mov`: a3 mo(ad) (R364). -/
def Ref.movA3 : Desc := refDesc 64 0x0 .none [.ov, .eax] "mov"
/-- `movs`: a4 (R425). -/
def Ref.movsA4 : Desc := refDesc 125 0x24 .byte [.yb, .xb] "movs" none .operand .string
/-- `movs`: a5 (R425). -/
def Ref.movsA5 : Desc := refDesc 125 0x20 .none [.yv, .xv] "movs" none .operand .string
/-- `cmps`: a6 (R426). -/
def Ref.cmpsA6 : Desc := refDesc 126 0x24 .byte [.xb, .yb] "cmps" none .operand .string
/-- `cmps`: a7 (R426). -/
def Ref.cmpsA7 : Desc := refDesc 126 0x20 .none [.xv, .yv] "cmps" none .operand .string
/-- `test`: a8 ib (R316). -/
def Ref.testA8 : Desc := refDesc 16 0x4 .byte [.al, .ib] "test"
/-- `test`: a9 iv (R316). -/
def Ref.testA9 : Desc := refDesc 16 0x0 .none [.eax, .iv] "test"
/-- `stos`: aa (R427). -/
def Ref.stosAA : Desc := refDesc 127 0x24 .byte [.yb, .al] "stos" none .operand .string
/-- `stos`: ab (R427). -/
def Ref.stosAB : Desc := refDesc 127 0x20 .none [.yv, .eax] "stos" none .operand .string
/-- `lods`: ac (R428). -/
def Ref.lodsAC : Desc := refDesc 128 0x24 .byte [.al, .xb] "lods" none .operand .string
/-- `lods`: ad (R428). -/
def Ref.lodsAD : Desc := refDesc 128 0x20 .none [.eax, .xv] "lods" none .operand .string
/-- `scas`: ae (R429). -/
def Ref.scasAE : Desc := refDesc 129 0x24 .byte [.al, .yb] "scas" none .operand .string
/-- `scas`: af (R429). -/
def Ref.scasAF : Desc := refDesc 129 0x20 .none [.eax, .yv] "scas" none .operand .string
/-- `mov`: b0+r ib (R364). -/
def Ref.movB0 : Desc := refDesc 64 0x4 .byte [.zb, .ib] "mov"
/-- `mov`: b8+r iv (R364). -/
def Ref.movB8 : Desc := refDesc 64 0x0 .none [.zv, .iv] "mov"
/-- `dispatch.group2`: c0 /r (R174). -/
def Ref.dispatchC0 : Desc := refDesc 0 0x3 .none [] ""
/-- `rol`: c0 /0 ib (R327). -/
def Ref.rolC0_0 : Desc := refDesc 27 0x15 .byte [.eb, .ib] "rol"
/-- `ror`: c0 /1 ib (R328). -/
def Ref.rorC0_1 : Desc := refDesc 28 0x15 .byte [.eb, .ib] "ror"
/-- `rcl`: c0 /2 ib (R329). -/
def Ref.rclC0_2 : Desc := refDesc 29 0x15 .byte [.eb, .ib] "rcl"
/-- `rcr`: c0 /3 ib (R330). -/
def Ref.rcrC0_3 : Desc := refDesc 30 0x15 .byte [.eb, .ib] "rcr"
/-- `shl`: c0 /4 ib (R331). -/
def Ref.shlC0_4 : Desc := refDesc 31 0x15 .byte [.eb, .ib] "shl"
/-- `shr`: c0 /5 ib (R332). -/
def Ref.shrC0_5 : Desc := refDesc 32 0x15 .byte [.eb, .ib] "shr"
/-- `sar`: c0 /7 ib (R333). -/
def Ref.sarC0_7 : Desc := refDesc 33 0x15 .byte [.eb, .ib] "sar"
/-- `dispatch.group2`: c1 /r (R174). -/
def Ref.dispatchC1 : Desc := refDesc 0 0x3 .none [] ""
/-- `rol`: c1 /0 ib (R327). -/
def Ref.rolC1_0 : Desc := refDesc 27 0x11 .none [.ev, .ib] "rol"
/-- `ror`: c1 /1 ib (R328). -/
def Ref.rorC1_1 : Desc := refDesc 28 0x11 .none [.ev, .ib] "ror"
/-- `rcl`: c1 /2 ib (R329). -/
def Ref.rclC1_2 : Desc := refDesc 29 0x11 .none [.ev, .ib] "rcl"
/-- `rcr`: c1 /3 ib (R330). -/
def Ref.rcrC1_3 : Desc := refDesc 30 0x11 .none [.ev, .ib] "rcr"
/-- `shl`: c1 /4 ib (R331). -/
def Ref.shlC1_4 : Desc := refDesc 31 0x11 .none [.ev, .ib] "shl"
/-- `shr`: c1 /5 ib (R332). -/
def Ref.shrC1_5 : Desc := refDesc 32 0x11 .none [.ev, .ib] "shr"
/-- `sar`: c1 /7 ib (R333). -/
def Ref.sarC1_7 : Desc := refDesc 33 0x11 .none [.ev, .ib] "sar"
/-- `ret`: c2 iw (R409). -/
def Ref.retC2 : Desc := refDesc 109 0x0 .none [.iw] "ret"
/-- `ret`: c3 (R409). -/
def Ref.retC3 : Desc := refDesc 109 0x0 .none [] "ret"
/-- `les`: c4 /r (R368). -/
def Ref.lesC4 : Desc := refDesc 68 0x1 .none [.gv, .m] "les"
/-- `lds`: c5 /r (R369). -/
def Ref.ldsC5 : Desc := refDesc 69 0x1 .none [.gv, .m] "lds"
/-- `dispatch.group11`: c6 /r (R174). -/
def Ref.dispatchC6 : Desc := refDesc 0 0x3 .none [] ""
/-- `mov`: c6 /0 ib (R364). -/
def Ref.movC6_0 : Desc := refDesc 64 0x15 .byte [.eb, .ib] "mov"
/-- `dispatch.group11`: c7 /r (R174). -/
def Ref.dispatchC7 : Desc := refDesc 0 0x3 .none [] ""
/-- `mov`: c7 /0 iv (R364). -/
def Ref.movC7_0 : Desc := refDesc 64 0x11 .none [.ev, .iv] "mov"
/-- `leave`: c9 (R370). -/
def Ref.leaveC9 : Desc := refDesc 70 0x0 .none [] "leave"
/-- `retf`: ca iw (R410). -/
def Ref.retfCA : Desc := refDesc 110 0x0 .none [.iw] "lret"
/-- `retf`: cb (R410). -/
def Ref.retfCB : Desc := refDesc 110 0x0 .none [] "lret"
/-- `int3`: cc (R411). -/
def Ref.int3CC : Desc := refDesc 111 0x0 .none [] "int3"
/-- `int`: cd ib (R412). -/
def Ref.intCD : Desc := refDesc 112 0x0 .none [.ib] "int"
/-- `into`: ce (R413). -/
def Ref.intoCE : Desc := refDesc 113 0x0 .none [] "into"
/-- `iret`: cf (R414). -/
def Ref.iretCF : Desc := refDesc 114 0x0 .none [] "iret" (some "iretw")
/-- `dispatch.group2`: d0 /r (R174). -/
def Ref.dispatchD0 : Desc := refDesc 0 0x3 .none [] ""
/-- `rol`: d0 /0 (R327). -/
def Ref.rolD0_0 : Desc := refDesc 27 0x15 .byte [.eb] "rol"
/-- `ror`: d0 /1 (R328). -/
def Ref.rorD0_1 : Desc := refDesc 28 0x15 .byte [.eb] "ror"
/-- `rcl`: d0 /2 (R329). -/
def Ref.rclD0_2 : Desc := refDesc 29 0x15 .byte [.eb] "rcl"
/-- `rcr`: d0 /3 (R330). -/
def Ref.rcrD0_3 : Desc := refDesc 30 0x15 .byte [.eb] "rcr"
/-- `shl`: d0 /4 (R331). -/
def Ref.shlD0_4 : Desc := refDesc 31 0x15 .byte [.eb] "shl"
/-- `shr`: d0 /5 (R332). -/
def Ref.shrD0_5 : Desc := refDesc 32 0x15 .byte [.eb] "shr"
/-- `sar`: d0 /7 (R333). -/
def Ref.sarD0_7 : Desc := refDesc 33 0x15 .byte [.eb] "sar"
/-- `dispatch.group2`: d1 /r (R174). -/
def Ref.dispatchD1 : Desc := refDesc 0 0x3 .none [] ""
/-- `rol`: d1 /0 (R327). -/
def Ref.rolD1_0 : Desc := refDesc 27 0x11 .none [.ev] "rol"
/-- `ror`: d1 /1 (R328). -/
def Ref.rorD1_1 : Desc := refDesc 28 0x11 .none [.ev] "ror"
/-- `rcl`: d1 /2 (R329). -/
def Ref.rclD1_2 : Desc := refDesc 29 0x11 .none [.ev] "rcl"
/-- `rcr`: d1 /3 (R330). -/
def Ref.rcrD1_3 : Desc := refDesc 30 0x11 .none [.ev] "rcr"
/-- `shl`: d1 /4 (R331). -/
def Ref.shlD1_4 : Desc := refDesc 31 0x11 .none [.ev] "shl"
/-- `shr`: d1 /5 (R332). -/
def Ref.shrD1_5 : Desc := refDesc 32 0x11 .none [.ev] "shr"
/-- `sar`: d1 /7 (R333). -/
def Ref.sarD1_7 : Desc := refDesc 33 0x11 .none [.ev] "sar"
/-- `dispatch.group2`: d2 /r (R174). -/
def Ref.dispatchD2 : Desc := refDesc 0 0x3 .none [] ""
/-- `rol`: d2 /0 (R327). -/
def Ref.rolD2_0 : Desc := refDesc 27 0x15 .byte [.eb, .cl] "rol"
/-- `ror`: d2 /1 (R328). -/
def Ref.rorD2_1 : Desc := refDesc 28 0x15 .byte [.eb, .cl] "ror"
/-- `rcl`: d2 /2 (R329). -/
def Ref.rclD2_2 : Desc := refDesc 29 0x15 .byte [.eb, .cl] "rcl"
/-- `rcr`: d2 /3 (R330). -/
def Ref.rcrD2_3 : Desc := refDesc 30 0x15 .byte [.eb, .cl] "rcr"
/-- `shl`: d2 /4 (R331). -/
def Ref.shlD2_4 : Desc := refDesc 31 0x15 .byte [.eb, .cl] "shl"
/-- `shr`: d2 /5 (R332). -/
def Ref.shrD2_5 : Desc := refDesc 32 0x15 .byte [.eb, .cl] "shr"
/-- `sar`: d2 /7 (R333). -/
def Ref.sarD2_7 : Desc := refDesc 33 0x15 .byte [.eb, .cl] "sar"
/-- `dispatch.group2`: d3 /r (R174). -/
def Ref.dispatchD3 : Desc := refDesc 0 0x3 .none [] ""
/-- `rol`: d3 /0 (R327). -/
def Ref.rolD3_0 : Desc := refDesc 27 0x11 .none [.ev, .cl] "rol"
/-- `ror`: d3 /1 (R328). -/
def Ref.rorD3_1 : Desc := refDesc 28 0x11 .none [.ev, .cl] "ror"
/-- `rcl`: d3 /2 (R329). -/
def Ref.rclD3_2 : Desc := refDesc 29 0x11 .none [.ev, .cl] "rcl"
/-- `rcr`: d3 /3 (R330). -/
def Ref.rcrD3_3 : Desc := refDesc 30 0x11 .none [.ev, .cl] "rcr"
/-- `shl`: d3 /4 (R331). -/
def Ref.shlD3_4 : Desc := refDesc 31 0x11 .none [.ev, .cl] "shl"
/-- `shr`: d3 /5 (R332). -/
def Ref.shrD3_5 : Desc := refDesc 32 0x11 .none [.ev, .cl] "shr"
/-- `sar`: d3 /7 (R333). -/
def Ref.sarD3_7 : Desc := refDesc 33 0x11 .none [.ev, .cl] "sar"
/-- `aam`: d4 ib (R317). -/
def Ref.aamD4 : Desc := refDesc 17 0x0 .none [.ib] "aam"
/-- `aad`: d5 ib (R318). -/
def Ref.aadD5 : Desc := refDesc 18 0x0 .none [.ib] "aad"
/-- `xlat`: d7 (R371). -/
def Ref.xlatD7 : Desc := refDesc 71 0x0 .none [] "xlat"
/-- `loopne`: e0 cb (R415). -/
def Ref.loopneE0 : Desc := refDesc 115 0x0 .none [.jb] "loopne"
/-- `loope`: e1 cb (R416). -/
def Ref.loopeE1 : Desc := refDesc 116 0x0 .none [.jb] "loope"
/-- `loop`: e2 cb (R417). -/
def Ref.loopE2 : Desc := refDesc 117 0x0 .none [.jb] "loop"
/-- `jecxz`: e3 cb (R418). -/
def Ref.jecxzE3 : Desc := refDesc 118 0x0 .none [.jb] "jecxz" (some "jcxz") .address
/-- `in`: e4 ib (R430). -/
def Ref.inE4 : Desc := refDesc 130 0x4 .byte [.al, .ib] "in"
/-- `in`: e5 ib (R430). -/
def Ref.inE5 : Desc := refDesc 130 0x0 .none [.eax, .ib] "in"
/-- `out`: e6 ib (R431). -/
def Ref.outE6 : Desc := refDesc 131 0x4 .byte [.ib, .al] "out"
/-- `out`: e7 ib (R431). -/
def Ref.outE7 : Desc := refDesc 131 0x0 .none [.ib, .eax] "out"
/-- `call`: e8 cv(ad) (R419). -/
def Ref.callE8 : Desc := refDesc 119 0x0 .none [.jv] "call"
/-- `jmp`: e9 cv(ad) (R420). -/
def Ref.jmpE9 : Desc := refDesc 120 0x0 .none [.jv] "jmp"
/-- `jmp`: eb cb (R420). -/
def Ref.jmpEB : Desc := refDesc 120 0x0 .none [.jb] "jmp"
/-- `in`: ec (R430). -/
def Ref.inEC : Desc := refDesc 130 0x4 .byte [.al, .dx] "in"
/-- `in`: ed (R430). -/
def Ref.inED : Desc := refDesc 130 0x0 .none [.eax, .dx] "in"
/-- `out`: ee (R431). -/
def Ref.outEE : Desc := refDesc 131 0x4 .byte [.dx, .al] "out"
/-- `out`: ef (R431). -/
def Ref.outEF : Desc := refDesc 131 0x0 .none [.dx, .eax] "out"
/-- `hlt`: f4 (R434). -/
def Ref.hltF4 : Desc := refDesc 134 0x0 .none [] "hlt"
/-- `cmc`: f5 (R472). -/
def Ref.cmcF5 : Desc := refDesc 172 0x0 .none [] "cmc"
/-- `dispatch.group3`: f6 /r (R174). -/
def Ref.dispatchF6 : Desc := refDesc 0 0x3 .none [] ""
/-- `test`: f6 /0 ib (R316). -/
def Ref.testF6_0 : Desc := refDesc 16 0x15 .byte [.eb, .ib] "test"
/-- `not`: f6 /2 (R319). -/
def Ref.notF6_2 : Desc := refDesc 19 0x15 .byte [.eb] "not"
/-- `neg`: f6 /3 (R320). -/
def Ref.negF6_3 : Desc := refDesc 20 0x15 .byte [.eb] "neg"
/-- `mul`: f6 /4 (R321). -/
def Ref.mulF6_4 : Desc := refDesc 21 0x15 .byte [.eb] "mul"
/-- `imul`: f6 /5 (R315). -/
def Ref.imulF6_5 : Desc := refDesc 15 0x15 .byte [.eb] "imul"
/-- `div`: f6 /6 (R322). -/
def Ref.divF6_6 : Desc := refDesc 22 0x15 .byte [.eb] "div"
/-- `idiv`: f6 /7 (R323). -/
def Ref.idivF6_7 : Desc := refDesc 23 0x15 .byte [.eb] "idiv"
/-- `dispatch.group3`: f7 /r (R174). -/
def Ref.dispatchF7 : Desc := refDesc 0 0x3 .none [] ""
/-- `test`: f7 /0 iv (R316). -/
def Ref.testF7_0 : Desc := refDesc 16 0x11 .none [.ev, .iv] "test"
/-- `not`: f7 /2 (R319). -/
def Ref.notF7_2 : Desc := refDesc 19 0x11 .none [.ev] "not"
/-- `neg`: f7 /3 (R320). -/
def Ref.negF7_3 : Desc := refDesc 20 0x11 .none [.ev] "neg"
/-- `mul`: f7 /4 (R321). -/
def Ref.mulF7_4 : Desc := refDesc 21 0x11 .none [.ev] "mul"
/-- `imul`: f7 /5 (R315). -/
def Ref.imulF7_5 : Desc := refDesc 15 0x11 .none [.ev] "imul"
/-- `div`: f7 /6 (R322). -/
def Ref.divF7_6 : Desc := refDesc 22 0x11 .none [.ev] "div"
/-- `idiv`: f7 /7 (R323). -/
def Ref.idivF7_7 : Desc := refDesc 23 0x11 .none [.ev] "idiv"
/-- `clc`: f8 (R473). -/
def Ref.clcF8 : Desc := refDesc 173 0x0 .none [] "clc"
/-- `stc`: f9 (R474). -/
def Ref.stcF9 : Desc := refDesc 174 0x0 .none [] "stc"
/-- `cli`: fa (R435). -/
def Ref.cliFA : Desc := refDesc 135 0x0 .none [] "cli"
/-- `sti`: fb (R436). -/
def Ref.stiFB : Desc := refDesc 136 0x0 .none [] "sti"
/-- `cld`: fc (R475). -/
def Ref.cldFC : Desc := refDesc 175 0x0 .none [] "cld"
/-- `std`: fd (R476). -/
def Ref.stdFD : Desc := refDesc 176 0x0 .none [] "std"
/-- `dispatch.group4`: fe /r (R174). -/
def Ref.dispatchFE : Desc := refDesc 0 0x3 .none [] ""
/-- `inc`: fe /0 (R313). -/
def Ref.incFE_0 : Desc := refDesc 13 0x15 .byte [.eb] "inc"
/-- `dec`: fe /1 (R314). -/
def Ref.decFE_1 : Desc := refDesc 14 0x15 .byte [.eb] "dec"
/-- `dispatch.group5`: ff /r (R174). -/
def Ref.dispatchFF : Desc := refDesc 0 0x3 .none [] ""
/-- `inc`: ff /0 (R313). -/
def Ref.incFF_0 : Desc := refDesc 13 0x11 .none [.ev] "inc"
/-- `dec`: ff /1 (R314). -/
def Ref.decFF_1 : Desc := refDesc 14 0x11 .none [.ev] "dec"
/-- `call`: ff /2 (R419). -/
def Ref.callFF_2 : Desc := refDesc 119 0x41 .none [.ev] "call"
/-- `callf`: ff /3 (R421). -/
def Ref.callfFF_3 : Desc := refDesc 121 0x41 .none [.m] "lcall"
/-- `jmp`: ff /4 (R420). -/
def Ref.jmpFF_4 : Desc := refDesc 120 0x41 .none [.ev] "jmp"
/-- `jmpf`: ff /5 (R422). -/
def Ref.jmpfFF_5 : Desc := refDesc 122 0x41 .none [.m] "ljmp"
/-- `push`: ff /6 (R359). -/
def Ref.pushFF_6 : Desc := refDesc 59 0x11 .none [.ev] "push"
/-- `dispatch.group6`: 0f 00 /r (R174). -/
def Ref.dispatch0F00 : Desc := refDesc 0 0x3 .none [] ""
/-- `sldt`: 0f 00 /0 (R437). -/
def Ref.sldt0F00_0 : Desc := refDesc 137 0x1 .none [.ew] "sldt"
/-- `str`: 0f 00 /1 (R438). -/
def Ref.str0F00_1 : Desc := refDesc 138 0x1 .none [.ew] "str"
/-- `lldt`: 0f 00 /2 (R439). -/
def Ref.lldt0F00_2 : Desc := refDesc 139 0x1 .none [.ew] "lldt"
/-- `ltr`: 0f 00 /3 (R440). -/
def Ref.ltr0F00_3 : Desc := refDesc 140 0x1 .none [.ew] "ltr"
/-- `verr`: 0f 00 /4 (R441). -/
def Ref.verr0F00_4 : Desc := refDesc 141 0x1 .none [.ew] "verr"
/-- `verw`: 0f 00 /5 (R442). -/
def Ref.verw0F00_5 : Desc := refDesc 142 0x1 .none [.ew] "verw"
/-- `dispatch.group7`: 0f 01 /r (R174). -/
def Ref.dispatch0F01 : Desc := refDesc 0 0x3 .none [] ""
/-- `sgdt`: 0f 01 /0 (R443). -/
def Ref.sgdt0F01_0 : Desc := refDesc 143 0x21 .none [.m] "sgdt" none .operand .dtab
/-- `sidt`: 0f 01 /1 (R444). -/
def Ref.sidt0F01_1 : Desc := refDesc 144 0x21 .none [.m] "sidt" none .operand .dtab
/-- `lgdt`: 0f 01 /2 (R445). -/
def Ref.lgdt0F01_2 : Desc := refDesc 145 0x31 .none [.m] "lgdt" none .operand .dtab
/-- `lidt`: 0f 01 /3 (R446). -/
def Ref.lidt0F01_3 : Desc := refDesc 146 0x31 .none [.m] "lidt" none .operand .dtab
/-- `smsw`: 0f 01 /4 (R447). -/
def Ref.smsw0F01_4 : Desc := refDesc 147 0x1 .none [.ew] "smsw"
/-- `lmsw`: 0f 01 /6 (R448). -/
def Ref.lmsw0F01_6 : Desc := refDesc 148 0x1 .none [.ew] "lmsw"
/-- `invlpg`: 0f 01 /7 (R449). -/
def Ref.invlpg0F01_7 : Desc := refDesc 149 0x1 .none [.m] "invlpg"
/-- `lar`: 0f 02 /r (R450). -/
def Ref.lar0F02 : Desc := refDesc 150 0x1 .none [.gv, .ew] "lar"
/-- `lsl`: 0f 03 /r (R451). -/
def Ref.lsl0F03 : Desc := refDesc 151 0x1 .none [.gv, .ew] "lsl"
/-- `clts`: 0f 06 (R452). -/
def Ref.clts0F06 : Desc := refDesc 152 0x0 .none [] "clts"
/-- `invd`: 0f 08 (R453). -/
def Ref.invd0F08 : Desc := refDesc 153 0x0 .none [] "invd"
/-- `wbinvd`: 0f 09 (R454). -/
def Ref.wbinvd0F09 : Desc := refDesc 154 0x0 .none [] "wbinvd"
/-- `ud2`: 0f 0b (R455). -/
def Ref.ud20F0B : Desc := refDesc 155 0x0 .none [] "ud2"
/-- `nop`: 0f 1f /r (R466). -/
def Ref.nop0F1F : Desc := refDesc 166 0x11 .none [.ev] "nop"
/-- `mov_cr`: 0f 20 /r (R456). -/
def Ref.movCr0F20 : Desc := refDesc 156 0x1 .none [.rd, .cr] "mov"
/-- `mov_dr`: 0f 21 /r (R457). -/
def Ref.movDr0F21 : Desc := refDesc 157 0x1 .none [.rd, .dr] "mov"
/-- `mov_cr`: 0f 22 /r (R456). -/
def Ref.movCr0F22 : Desc := refDesc 156 0x1 .none [.cr, .rd] "mov"
/-- `mov_dr`: 0f 23 /r (R457). -/
def Ref.movDr0F23 : Desc := refDesc 157 0x1 .none [.dr, .rd] "mov"
/-- `wrmsr`: 0f 30 (R458). -/
def Ref.wrmsr0F30 : Desc := refDesc 158 0x0 .none [] "wrmsr"
/-- `rdtsc`: 0f 31 (R459). -/
def Ref.rdtsc0F31 : Desc := refDesc 159 0x0 .none [] "rdtsc"
/-- `rdmsr`: 0f 32 (R460). -/
def Ref.rdmsr0F32 : Desc := refDesc 160 0x0 .none [] "rdmsr"
/-- `rdpmc`: 0f 33 (R461). -/
def Ref.rdpmc0F33 : Desc := refDesc 161 0x0 .none [] "rdpmc"
/-- `sysenter`: 0f 34 (R462). -/
def Ref.sysenter0F34 : Desc := refDesc 162 0x0 .none [] "sysenter"
/-- `sysexit`: 0f 35 (R463). -/
def Ref.sysexit0F35 : Desc := refDesc 163 0x0 .none [] "sysexit"
/-- `cmovo`: 0f 40 /r (R372). -/
def Ref.cmovo0F40 : Desc := refDesc 72 0x1 .none [.gv, .ev] "cmovo"
/-- `cmovno`: 0f 41 /r (R373). -/
def Ref.cmovno0F41 : Desc := refDesc 73 0x1 .none [.gv, .ev] "cmovno"
/-- `cmovb`: 0f 42 /r (R374). -/
def Ref.cmovb0F42 : Desc := refDesc 74 0x1 .none [.gv, .ev] "cmovb"
/-- `cmovae`: 0f 43 /r (R375). -/
def Ref.cmovae0F43 : Desc := refDesc 75 0x1 .none [.gv, .ev] "cmovae"
/-- `cmove`: 0f 44 /r (R376). -/
def Ref.cmove0F44 : Desc := refDesc 76 0x1 .none [.gv, .ev] "cmove"
/-- `cmovne`: 0f 45 /r (R377). -/
def Ref.cmovne0F45 : Desc := refDesc 77 0x1 .none [.gv, .ev] "cmovne"
/-- `cmovbe`: 0f 46 /r (R378). -/
def Ref.cmovbe0F46 : Desc := refDesc 78 0x1 .none [.gv, .ev] "cmovbe"
/-- `cmova`: 0f 47 /r (R379). -/
def Ref.cmova0F47 : Desc := refDesc 79 0x1 .none [.gv, .ev] "cmova"
/-- `cmovs`: 0f 48 /r (R380). -/
def Ref.cmovs0F48 : Desc := refDesc 80 0x1 .none [.gv, .ev] "cmovs"
/-- `cmovns`: 0f 49 /r (R381). -/
def Ref.cmovns0F49 : Desc := refDesc 81 0x1 .none [.gv, .ev] "cmovns"
/-- `cmovp`: 0f 4a /r (R382). -/
def Ref.cmovp0F4A : Desc := refDesc 82 0x1 .none [.gv, .ev] "cmovp"
/-- `cmovnp`: 0f 4b /r (R383). -/
def Ref.cmovnp0F4B : Desc := refDesc 83 0x1 .none [.gv, .ev] "cmovnp"
/-- `cmovl`: 0f 4c /r (R384). -/
def Ref.cmovl0F4C : Desc := refDesc 84 0x1 .none [.gv, .ev] "cmovl"
/-- `cmovge`: 0f 4d /r (R385). -/
def Ref.cmovge0F4D : Desc := refDesc 85 0x1 .none [.gv, .ev] "cmovge"
/-- `cmovle`: 0f 4e /r (R386). -/
def Ref.cmovle0F4E : Desc := refDesc 86 0x1 .none [.gv, .ev] "cmovle"
/-- `cmovg`: 0f 4f /r (R387). -/
def Ref.cmovg0F4F : Desc := refDesc 87 0x1 .none [.gv, .ev] "cmovg"
/-- `jo`: 0f 80 cv(ad) (R393). -/
def Ref.jo0F80 : Desc := refDesc 93 0x0 .none [.jv] "jo"
/-- `jno`: 0f 81 cv(ad) (R394). -/
def Ref.jno0F81 : Desc := refDesc 94 0x0 .none [.jv] "jno"
/-- `jb`: 0f 82 cv(ad) (R395). -/
def Ref.jb0F82 : Desc := refDesc 95 0x0 .none [.jv] "jb"
/-- `jae`: 0f 83 cv(ad) (R396). -/
def Ref.jae0F83 : Desc := refDesc 96 0x0 .none [.jv] "jae"
/-- `je`: 0f 84 cv(ad) (R397). -/
def Ref.je0F84 : Desc := refDesc 97 0x0 .none [.jv] "je"
/-- `jne`: 0f 85 cv(ad) (R398). -/
def Ref.jne0F85 : Desc := refDesc 98 0x0 .none [.jv] "jne"
/-- `jbe`: 0f 86 cv(ad) (R399). -/
def Ref.jbe0F86 : Desc := refDesc 99 0x0 .none [.jv] "jbe"
/-- `ja`: 0f 87 cv(ad) (R400). -/
def Ref.ja0F87 : Desc := refDesc 100 0x0 .none [.jv] "ja"
/-- `js`: 0f 88 cv(ad) (R401). -/
def Ref.js0F88 : Desc := refDesc 101 0x0 .none [.jv] "js"
/-- `jns`: 0f 89 cv(ad) (R402). -/
def Ref.jns0F89 : Desc := refDesc 102 0x0 .none [.jv] "jns"
/-- `jp`: 0f 8a cv(ad) (R403). -/
def Ref.jp0F8A : Desc := refDesc 103 0x0 .none [.jv] "jp"
/-- `jnp`: 0f 8b cv(ad) (R404). -/
def Ref.jnp0F8B : Desc := refDesc 104 0x0 .none [.jv] "jnp"
/-- `jl`: 0f 8c cv(ad) (R405). -/
def Ref.jl0F8C : Desc := refDesc 105 0x0 .none [.jv] "jl"
/-- `jge`: 0f 8d cv(ad) (R406). -/
def Ref.jge0F8D : Desc := refDesc 106 0x0 .none [.jv] "jge"
/-- `jle`: 0f 8e cv(ad) (R407). -/
def Ref.jle0F8E : Desc := refDesc 107 0x0 .none [.jv] "jle"
/-- `jg`: 0f 8f cv(ad) (R408). -/
def Ref.jg0F8F : Desc := refDesc 108 0x0 .none [.jv] "jg"
/-- `seto`: 0f 90 /r (R334). -/
def Ref.seto0F90 : Desc := refDesc 34 0x5 .byte [.eb] "seto"
/-- `setno`: 0f 91 /r (R335). -/
def Ref.setno0F91 : Desc := refDesc 35 0x5 .byte [.eb] "setno"
/-- `setb`: 0f 92 /r (R336). -/
def Ref.setb0F92 : Desc := refDesc 36 0x5 .byte [.eb] "setb"
/-- `setae`: 0f 93 /r (R337). -/
def Ref.setae0F93 : Desc := refDesc 37 0x5 .byte [.eb] "setae"
/-- `sete`: 0f 94 /r (R338). -/
def Ref.sete0F94 : Desc := refDesc 38 0x5 .byte [.eb] "sete"
/-- `setne`: 0f 95 /r (R339). -/
def Ref.setne0F95 : Desc := refDesc 39 0x5 .byte [.eb] "setne"
/-- `setbe`: 0f 96 /r (R340). -/
def Ref.setbe0F96 : Desc := refDesc 40 0x5 .byte [.eb] "setbe"
/-- `seta`: 0f 97 /r (R341). -/
def Ref.seta0F97 : Desc := refDesc 41 0x5 .byte [.eb] "seta"
/-- `sets`: 0f 98 /r (R342). -/
def Ref.sets0F98 : Desc := refDesc 42 0x5 .byte [.eb] "sets"
/-- `setns`: 0f 99 /r (R343). -/
def Ref.setns0F99 : Desc := refDesc 43 0x5 .byte [.eb] "setns"
/-- `setp`: 0f 9a /r (R344). -/
def Ref.setp0F9A : Desc := refDesc 44 0x5 .byte [.eb] "setp"
/-- `setnp`: 0f 9b /r (R345). -/
def Ref.setnp0F9B : Desc := refDesc 45 0x5 .byte [.eb] "setnp"
/-- `setl`: 0f 9c /r (R346). -/
def Ref.setl0F9C : Desc := refDesc 46 0x5 .byte [.eb] "setl"
/-- `setge`: 0f 9d /r (R347). -/
def Ref.setge0F9D : Desc := refDesc 47 0x5 .byte [.eb] "setge"
/-- `setle`: 0f 9e /r (R348). -/
def Ref.setle0F9E : Desc := refDesc 48 0x5 .byte [.eb] "setle"
/-- `setg`: 0f 9f /r (R349). -/
def Ref.setg0F9F : Desc := refDesc 49 0x5 .byte [.eb] "setg"
/-- `push`: 0f a0 (R359). -/
def Ref.push0FA0 : Desc := refDesc 59 0x0 .none [.fs] "push"
/-- `pop`: 0f a1 (R360). -/
def Ref.pop0FA1 : Desc := refDesc 60 0x0 .none [.fs] "pop"
/-- `cpuid`: 0f a2 (R464). -/
def Ref.cpuid0FA2 : Desc := refDesc 164 0x0 .none [] "cpuid"
/-- `bt`: 0f a3 /r (R350). -/
def Ref.bt0FA3 : Desc := refDesc 50 0x1 .none [.ev, .gv] "bt"
/-- `shld`: 0f a4 /r ib (R351). -/
def Ref.shld0FA4 : Desc := refDesc 51 0x1 .none [.ev, .gv, .ib] "shld"
/-- `push`: 0f a8 (R359). -/
def Ref.push0FA8 : Desc := refDesc 59 0x0 .none [.gs] "push"
/-- `pop`: 0f a9 (R360). -/
def Ref.pop0FA9 : Desc := refDesc 60 0x0 .none [.gs] "pop"
/-- `rsm`: 0f aa (R465). -/
def Ref.rsm0FAA : Desc := refDesc 165 0x0 .none [] "rsm"
/-- `bts`: 0f ab /r (R352). -/
def Ref.bts0FAB : Desc := refDesc 52 0x1 .none [.ev, .gv] "bts"
/-- `shrd`: 0f ac /r ib (R353). -/
def Ref.shrd0FAC : Desc := refDesc 53 0x1 .none [.ev, .gv, .ib] "shrd"
/-- `imul`: 0f af /r (R315). -/
def Ref.imul0FAF : Desc := refDesc 15 0x1 .none [.gv, .ev] "imul"
/-- `cmpxchg`: 0f b0 /r (R324). -/
def Ref.cmpxchg0FB0 : Desc := refDesc 24 0x5 .byte [.eb, .gb] "cmpxchg"
/-- `cmpxchg`: 0f b1 /r (R324). -/
def Ref.cmpxchg0FB1 : Desc := refDesc 24 0x1 .none [.ev, .gv] "cmpxchg"
/-- `lss`: 0f b2 /r (R388). -/
def Ref.lss0FB2 : Desc := refDesc 88 0x1 .none [.gv, .m] "lss"
/-- `btr`: 0f b3 /r (R354). -/
def Ref.btr0FB3 : Desc := refDesc 54 0x1 .none [.ev, .gv] "btr"
/-- `lfs`: 0f b4 /r (R389). -/
def Ref.lfs0FB4 : Desc := refDesc 89 0x1 .none [.gv, .m] "lfs"
/-- `lgs`: 0f b5 /r (R390). -/
def Ref.lgs0FB5 : Desc := refDesc 90 0x1 .none [.gv, .m] "lgs"
/-- `movzx`: 0f b6 /r (R391). -/
def Ref.movzx0FB6 : Desc := refDesc 91 0x1 .none [.gv, .eb] "movzbl" (some "movzbw")
/-- `movzx`: 0f b7 /r (R391). -/
def Ref.movzx0FB7 : Desc := refDesc 91 0x1 .none [.gv, .ew] "movzwl" (some "movzww")
/-- `dispatch.group8`: 0f ba /r (R174). -/
def Ref.dispatch0FBA : Desc := refDesc 0 0x3 .none [] ""
/-- `bt`: 0f ba /4 ib (R350). -/
def Ref.bt0FBA_4 : Desc := refDesc 50 0x11 .none [.ev, .ib] "bt"
/-- `bts`: 0f ba /5 ib (R352). -/
def Ref.bts0FBA_5 : Desc := refDesc 52 0x11 .none [.ev, .ib] "bts"
/-- `btr`: 0f ba /6 ib (R354). -/
def Ref.btr0FBA_6 : Desc := refDesc 54 0x11 .none [.ev, .ib] "btr"
/-- `btc`: 0f ba /7 ib (R355). -/
def Ref.btc0FBA_7 : Desc := refDesc 55 0x11 .none [.ev, .ib] "btc"
/-- `btc`: 0f bb /r (R355). -/
def Ref.btc0FBB : Desc := refDesc 55 0x1 .none [.ev, .gv] "btc"
/-- `bsf`: 0f bc /r (R356). -/
def Ref.bsf0FBC : Desc := refDesc 56 0x1 .none [.gv, .ev] "bsf"
/-- `bsr`: 0f bd /r (R357). -/
def Ref.bsr0FBD : Desc := refDesc 57 0x1 .none [.gv, .ev] "bsr"
/-- `movsx`: 0f be /r (R392). -/
def Ref.movsx0FBE : Desc := refDesc 92 0x1 .none [.gv, .eb] "movsbl" (some "movsbw")
/-- `movsx`: 0f bf /r (R392). -/
def Ref.movsx0FBF : Desc := refDesc 92 0x1 .none [.gv, .ew] "movswl" (some "movsww")
/-- `xadd`: 0f c0 /r (R325). -/
def Ref.xadd0FC0 : Desc := refDesc 25 0x5 .byte [.eb, .gb] "xadd"
/-- `xadd`: 0f c1 /r (R325). -/
def Ref.xadd0FC1 : Desc := refDesc 25 0x1 .none [.ev, .gv] "xadd"
/-- `dispatch.group9`: 0f c7 /r (R174). -/
def Ref.dispatch0FC7 : Desc := refDesc 0 0x3 .none [] ""
/-- `cmpxchg8b`: 0f c7 /1 (R326). -/
def Ref.cmpxchg8b0FC7_1 : Desc := refDesc 26 0x1 .none [.m] "cmpxchg8b"
/-- `bswap`: 0f c8+r (R358). -/
def Ref.bswap0FC8 : Desc := refDesc 58 0x0 .none [.zd] "bswap"
/-- `xchg`: 66 90 (prefix 66 required) (R363). -/
def Ref.xchg66_90 : Desc := refDesc 63 0x0 .none [.eax, .zv] "xchg"

/-- Part of T1. -/
def refT1Rows0 : List Row := [
  (0x00, Ref.add00),
  (0x01, Ref.add01),
  (0x02, Ref.add02),
  (0x03, Ref.add03),
  (0x04, Ref.add04),
  (0x05, Ref.add05),
  (0x06, Ref.push06),
  (0x07, Ref.pop07),
  (0x08, Ref.or08),
  (0x09, Ref.or09),
  (0x0A, Ref.or0A),
  (0x0B, Ref.or0B),
  (0x0C, Ref.or0C),
  (0x0D, Ref.or0D),
  (0x0E, Ref.push0E),
  (0x10, Ref.adc10),
  (0x11, Ref.adc11),
  (0x12, Ref.adc12),
  (0x13, Ref.adc13),
  (0x14, Ref.adc14),
  (0x15, Ref.adc15),
  (0x16, Ref.push16),
  (0x17, Ref.pop17),
  (0x18, Ref.sbb18),
  (0x19, Ref.sbb19),
  (0x1A, Ref.sbb1A),
  (0x1B, Ref.sbb1B),
  (0x1C, Ref.sbb1C),
  (0x1D, Ref.sbb1D),
  (0x1E, Ref.push1E),
  (0x1F, Ref.pop1F),
  (0x20, Ref.and20)]

/-- Part of T1. -/
def refT1Rows1 : List Row := [
  (0x21, Ref.and21),
  (0x22, Ref.and22),
  (0x23, Ref.and23),
  (0x24, Ref.and24),
  (0x25, Ref.and25),
  (0x27, Ref.daa27),
  (0x28, Ref.sub28),
  (0x29, Ref.sub29),
  (0x2A, Ref.sub2A),
  (0x2B, Ref.sub2B),
  (0x2C, Ref.sub2C),
  (0x2D, Ref.sub2D),
  (0x2F, Ref.das2F),
  (0x30, Ref.xor30),
  (0x31, Ref.xor31),
  (0x32, Ref.xor32),
  (0x33, Ref.xor33),
  (0x34, Ref.xor34),
  (0x35, Ref.xor35),
  (0x37, Ref.aaa37),
  (0x38, Ref.cmp38),
  (0x39, Ref.cmp39),
  (0x3A, Ref.cmp3A),
  (0x3B, Ref.cmp3B),
  (0x3C, Ref.cmp3C),
  (0x3D, Ref.cmp3D),
  (0x3F, Ref.aas3F),
  (0x40, Ref.inc40),
  (0x41, Ref.inc40),
  (0x42, Ref.inc40),
  (0x43, Ref.inc40),
  (0x44, Ref.inc40)]

/-- Part of T1. -/
def refT1Rows2 : List Row := [
  (0x45, Ref.inc40),
  (0x46, Ref.inc40),
  (0x47, Ref.inc40),
  (0x48, Ref.dec48),
  (0x49, Ref.dec48),
  (0x4A, Ref.dec48),
  (0x4B, Ref.dec48),
  (0x4C, Ref.dec48),
  (0x4D, Ref.dec48),
  (0x4E, Ref.dec48),
  (0x4F, Ref.dec48),
  (0x50, Ref.push50),
  (0x51, Ref.push50),
  (0x52, Ref.push50),
  (0x53, Ref.push50),
  (0x54, Ref.push50),
  (0x55, Ref.push50),
  (0x56, Ref.push50),
  (0x57, Ref.push50),
  (0x58, Ref.pop58),
  (0x59, Ref.pop58),
  (0x5A, Ref.pop58),
  (0x5B, Ref.pop58),
  (0x5C, Ref.pop58),
  (0x5D, Ref.pop58),
  (0x5E, Ref.pop58),
  (0x5F, Ref.pop58),
  (0x60, Ref.pusha60),
  (0x61, Ref.popa61),
  (0x62, Ref.bound62),
  (0x63, Ref.arpl63),
  (0x68, Ref.push68)]

/-- Part of T1. -/
def refT1Rows3 : List Row := [
  (0x69, Ref.imul69),
  (0x6A, Ref.push6A),
  (0x6B, Ref.imul6B),
  (0x6C, Ref.ins6C),
  (0x6D, Ref.ins6D),
  (0x6E, Ref.outs6E),
  (0x6F, Ref.outs6F),
  (0x70, Ref.jo70),
  (0x71, Ref.jno71),
  (0x72, Ref.jb72),
  (0x73, Ref.jae73),
  (0x74, Ref.je74),
  (0x75, Ref.jne75),
  (0x76, Ref.jbe76),
  (0x77, Ref.ja77),
  (0x78, Ref.js78),
  (0x79, Ref.jns79),
  (0x7A, Ref.jp7A),
  (0x7B, Ref.jnp7B),
  (0x7C, Ref.jl7C),
  (0x7D, Ref.jge7D),
  (0x7E, Ref.jle7E),
  (0x7F, Ref.jg7F),
  (0x80, Ref.dispatch80),
  (0x81, Ref.dispatch81),
  (0x82, Ref.dispatch82),
  (0x83, Ref.dispatch83),
  (0x84, Ref.test84),
  (0x85, Ref.test85),
  (0x86, Ref.xchg86),
  (0x87, Ref.xchg87),
  (0x88, Ref.mov88)]

/-- Part of T1. -/
def refT1Rows4 : List Row := [
  (0x89, Ref.mov89),
  (0x8A, Ref.mov8A),
  (0x8B, Ref.mov8B),
  (0x8C, Ref.mov8C),
  (0x8D, Ref.lea8D),
  (0x8E, Ref.mov8E),
  (0x8F, Ref.dispatch8F),
  (0x90, Ref.nop90),
  (0x91, Ref.xchg91),
  (0x92, Ref.xchg91),
  (0x93, Ref.xchg91),
  (0x94, Ref.xchg91),
  (0x95, Ref.xchg91),
  (0x96, Ref.xchg91),
  (0x97, Ref.xchg91),
  (0x98, Ref.cwde98),
  (0x99, Ref.cdq99),
  (0x9B, Ref.fwait9B),
  (0x9C, Ref.pushf9C),
  (0x9D, Ref.popf9D),
  (0x9E, Ref.sahf9E),
  (0x9F, Ref.lahf9F),
  (0xA0, Ref.movA0),
  (0xA1, Ref.movA1),
  (0xA2, Ref.movA2),
  (0xA3, Ref.movA3),
  (0xA4, Ref.movsA4),
  (0xA5, Ref.movsA5),
  (0xA6, Ref.cmpsA6),
  (0xA7, Ref.cmpsA7),
  (0xA8, Ref.testA8),
  (0xA9, Ref.testA9)]

/-- Part of T1. -/
def refT1Rows5 : List Row := [
  (0xAA, Ref.stosAA),
  (0xAB, Ref.stosAB),
  (0xAC, Ref.lodsAC),
  (0xAD, Ref.lodsAD),
  (0xAE, Ref.scasAE),
  (0xAF, Ref.scasAF),
  (0xB0, Ref.movB0),
  (0xB1, Ref.movB0),
  (0xB2, Ref.movB0),
  (0xB3, Ref.movB0),
  (0xB4, Ref.movB0),
  (0xB5, Ref.movB0),
  (0xB6, Ref.movB0),
  (0xB7, Ref.movB0),
  (0xB8, Ref.movB8),
  (0xB9, Ref.movB8),
  (0xBA, Ref.movB8),
  (0xBB, Ref.movB8),
  (0xBC, Ref.movB8),
  (0xBD, Ref.movB8),
  (0xBE, Ref.movB8),
  (0xBF, Ref.movB8),
  (0xC0, Ref.dispatchC0),
  (0xC1, Ref.dispatchC1),
  (0xC2, Ref.retC2),
  (0xC3, Ref.retC3),
  (0xC4, Ref.lesC4),
  (0xC5, Ref.ldsC5),
  (0xC6, Ref.dispatchC6),
  (0xC7, Ref.dispatchC7),
  (0xC9, Ref.leaveC9),
  (0xCA, Ref.retfCA)]

/-- Part of T1. -/
def refT1Rows6 : List Row := [
  (0xCB, Ref.retfCB),
  (0xCC, Ref.int3CC),
  (0xCD, Ref.intCD),
  (0xCE, Ref.intoCE),
  (0xCF, Ref.iretCF),
  (0xD0, Ref.dispatchD0),
  (0xD1, Ref.dispatchD1),
  (0xD2, Ref.dispatchD2),
  (0xD3, Ref.dispatchD3),
  (0xD4, Ref.aamD4),
  (0xD5, Ref.aadD5),
  (0xD7, Ref.xlatD7),
  (0xE0, Ref.loopneE0),
  (0xE1, Ref.loopeE1),
  (0xE2, Ref.loopE2),
  (0xE3, Ref.jecxzE3),
  (0xE4, Ref.inE4),
  (0xE5, Ref.inE5),
  (0xE6, Ref.outE6),
  (0xE7, Ref.outE7),
  (0xE8, Ref.callE8),
  (0xE9, Ref.jmpE9),
  (0xEB, Ref.jmpEB),
  (0xEC, Ref.inEC),
  (0xED, Ref.inED),
  (0xEE, Ref.outEE),
  (0xEF, Ref.outEF),
  (0xF4, Ref.hltF4),
  (0xF5, Ref.cmcF5),
  (0xF6, Ref.dispatchF6),
  (0xF7, Ref.dispatchF7),
  (0xF8, Ref.clcF8)]

/-- Part of T1. -/
def refT1Rows7 : List Row := [
  (0xF9, Ref.stcF9),
  (0xFA, Ref.cliFA),
  (0xFB, Ref.stiFB),
  (0xFC, Ref.cldFC),
  (0xFD, Ref.stdFD),
  (0xFE, Ref.dispatchFE),
  (0xFF, Ref.dispatchFF)]

/-- T1 of REF (R128). -/
def refT1 : List Row :=
  refT1Rows0 ++ refT1Rows1 ++ refT1Rows2 ++ refT1Rows3 ++ refT1Rows4 ++ refT1Rows5 ++ refT1Rows6 ++ refT1Rows7

/-- Part of T2. -/
def refT2Rows0 : List Row := [
  (0x00, Ref.dispatch0F00),
  (0x01, Ref.dispatch0F01),
  (0x02, Ref.lar0F02),
  (0x03, Ref.lsl0F03),
  (0x06, Ref.clts0F06),
  (0x08, Ref.invd0F08),
  (0x09, Ref.wbinvd0F09),
  (0x0B, Ref.ud20F0B),
  (0x1F, Ref.nop0F1F),
  (0x20, Ref.movCr0F20),
  (0x21, Ref.movDr0F21),
  (0x22, Ref.movCr0F22),
  (0x23, Ref.movDr0F23),
  (0x30, Ref.wrmsr0F30),
  (0x31, Ref.rdtsc0F31),
  (0x32, Ref.rdmsr0F32),
  (0x33, Ref.rdpmc0F33),
  (0x34, Ref.sysenter0F34),
  (0x35, Ref.sysexit0F35),
  (0x40, Ref.cmovo0F40),
  (0x41, Ref.cmovno0F41),
  (0x42, Ref.cmovb0F42),
  (0x43, Ref.cmovae0F43),
  (0x44, Ref.cmove0F44),
  (0x45, Ref.cmovne0F45),
  (0x46, Ref.cmovbe0F46),
  (0x47, Ref.cmova0F47),
  (0x48, Ref.cmovs0F48),
  (0x49, Ref.cmovns0F49),
  (0x4A, Ref.cmovp0F4A),
  (0x4B, Ref.cmovnp0F4B),
  (0x4C, Ref.cmovl0F4C)]

/-- Part of T2. -/
def refT2Rows1 : List Row := [
  (0x4D, Ref.cmovge0F4D),
  (0x4E, Ref.cmovle0F4E),
  (0x4F, Ref.cmovg0F4F),
  (0x80, Ref.jo0F80),
  (0x81, Ref.jno0F81),
  (0x82, Ref.jb0F82),
  (0x83, Ref.jae0F83),
  (0x84, Ref.je0F84),
  (0x85, Ref.jne0F85),
  (0x86, Ref.jbe0F86),
  (0x87, Ref.ja0F87),
  (0x88, Ref.js0F88),
  (0x89, Ref.jns0F89),
  (0x8A, Ref.jp0F8A),
  (0x8B, Ref.jnp0F8B),
  (0x8C, Ref.jl0F8C),
  (0x8D, Ref.jge0F8D),
  (0x8E, Ref.jle0F8E),
  (0x8F, Ref.jg0F8F),
  (0x90, Ref.seto0F90),
  (0x91, Ref.setno0F91),
  (0x92, Ref.setb0F92),
  (0x93, Ref.setae0F93),
  (0x94, Ref.sete0F94),
  (0x95, Ref.setne0F95),
  (0x96, Ref.setbe0F96),
  (0x97, Ref.seta0F97),
  (0x98, Ref.sets0F98),
  (0x99, Ref.setns0F99),
  (0x9A, Ref.setp0F9A),
  (0x9B, Ref.setnp0F9B),
  (0x9C, Ref.setl0F9C)]

/-- Part of T2. -/
def refT2Rows2 : List Row := [
  (0x9D, Ref.setge0F9D),
  (0x9E, Ref.setle0F9E),
  (0x9F, Ref.setg0F9F),
  (0xA0, Ref.push0FA0),
  (0xA1, Ref.pop0FA1),
  (0xA2, Ref.cpuid0FA2),
  (0xA3, Ref.bt0FA3),
  (0xA4, Ref.shld0FA4),
  (0xA8, Ref.push0FA8),
  (0xA9, Ref.pop0FA9),
  (0xAA, Ref.rsm0FAA),
  (0xAB, Ref.bts0FAB),
  (0xAC, Ref.shrd0FAC),
  (0xAF, Ref.imul0FAF),
  (0xB0, Ref.cmpxchg0FB0),
  (0xB1, Ref.cmpxchg0FB1),
  (0xB2, Ref.lss0FB2),
  (0xB3, Ref.btr0FB3),
  (0xB4, Ref.lfs0FB4),
  (0xB5, Ref.lgs0FB5),
  (0xB6, Ref.movzx0FB6),
  (0xB7, Ref.movzx0FB7),
  (0xBA, Ref.dispatch0FBA),
  (0xBB, Ref.btc0FBB),
  (0xBC, Ref.bsf0FBC),
  (0xBD, Ref.bsr0FBD),
  (0xBE, Ref.movsx0FBE),
  (0xBF, Ref.movsx0FBF),
  (0xC0, Ref.xadd0FC0),
  (0xC1, Ref.xadd0FC1),
  (0xC7, Ref.dispatch0FC7),
  (0xC8, Ref.bswap0FC8)]

/-- Part of T2. -/
def refT2Rows3 : List Row := [
  (0xC9, Ref.bswap0FC8),
  (0xCA, Ref.bswap0FC8),
  (0xCB, Ref.bswap0FC8),
  (0xCC, Ref.bswap0FC8),
  (0xCD, Ref.bswap0FC8),
  (0xCE, Ref.bswap0FC8),
  (0xCF, Ref.bswap0FC8)]

/-- T2 of REF (R128). -/
def refT2 : List Row :=
  refT2Rows0 ++ refT2Rows1 ++ refT2Rows2 ++ refT2Rows3

/-- Part of TG. -/
def refTGRows0 : List Row := [
  (0x8000, Ref.add80_0),
  (0x8001, Ref.or80_1),
  (0x8002, Ref.adc80_2),
  (0x8003, Ref.sbb80_3),
  (0x8004, Ref.and80_4),
  (0x8005, Ref.sub80_5),
  (0x8006, Ref.xor80_6),
  (0x8007, Ref.cmp80_7),
  (0x8100, Ref.add81_0),
  (0x8101, Ref.or81_1),
  (0x8102, Ref.adc81_2),
  (0x8103, Ref.sbb81_3),
  (0x8104, Ref.and81_4),
  (0x8105, Ref.sub81_5),
  (0x8106, Ref.xor81_6),
  (0x8107, Ref.cmp81_7),
  (0x8200, Ref.add82_0),
  (0x8201, Ref.or82_1),
  (0x8202, Ref.adc82_2),
  (0x8203, Ref.sbb82_3),
  (0x8204, Ref.and82_4),
  (0x8205, Ref.sub82_5),
  (0x8206, Ref.xor82_6),
  (0x8207, Ref.cmp82_7),
  (0x8300, Ref.add83_0),
  (0x8301, Ref.or83_1),
  (0x8302, Ref.adc83_2),
  (0x8303, Ref.sbb83_3),
  (0x8304, Ref.and83_4),
  (0x8305, Ref.sub83_5),
  (0x8306, Ref.xor83_6),
  (0x8307, Ref.cmp83_7)]

/-- Part of TG. -/
def refTGRows1 : List Row := [
  (0x8F00, Ref.pop8F_0),
  (0xC000, Ref.rolC0_0),
  (0xC001, Ref.rorC0_1),
  (0xC002, Ref.rclC0_2),
  (0xC003, Ref.rcrC0_3),
  (0xC004, Ref.shlC0_4),
  (0xC005, Ref.shrC0_5),
  (0xC007, Ref.sarC0_7),
  (0xC100, Ref.rolC1_0),
  (0xC101, Ref.rorC1_1),
  (0xC102, Ref.rclC1_2),
  (0xC103, Ref.rcrC1_3),
  (0xC104, Ref.shlC1_4),
  (0xC105, Ref.shrC1_5),
  (0xC107, Ref.sarC1_7),
  (0xC600, Ref.movC6_0),
  (0xC700, Ref.movC7_0),
  (0xD000, Ref.rolD0_0),
  (0xD001, Ref.rorD0_1),
  (0xD002, Ref.rclD0_2),
  (0xD003, Ref.rcrD0_3),
  (0xD004, Ref.shlD0_4),
  (0xD005, Ref.shrD0_5),
  (0xD007, Ref.sarD0_7),
  (0xD100, Ref.rolD1_0),
  (0xD101, Ref.rorD1_1),
  (0xD102, Ref.rclD1_2),
  (0xD103, Ref.rcrD1_3),
  (0xD104, Ref.shlD1_4),
  (0xD105, Ref.shrD1_5),
  (0xD107, Ref.sarD1_7),
  (0xD200, Ref.rolD2_0)]

/-- Part of TG. -/
def refTGRows2 : List Row := [
  (0xD201, Ref.rorD2_1),
  (0xD202, Ref.rclD2_2),
  (0xD203, Ref.rcrD2_3),
  (0xD204, Ref.shlD2_4),
  (0xD205, Ref.shrD2_5),
  (0xD207, Ref.sarD2_7),
  (0xD300, Ref.rolD3_0),
  (0xD301, Ref.rorD3_1),
  (0xD302, Ref.rclD3_2),
  (0xD303, Ref.rcrD3_3),
  (0xD304, Ref.shlD3_4),
  (0xD305, Ref.shrD3_5),
  (0xD307, Ref.sarD3_7),
  (0xF600, Ref.testF6_0),
  (0xF602, Ref.notF6_2),
  (0xF603, Ref.negF6_3),
  (0xF604, Ref.mulF6_4),
  (0xF605, Ref.imulF6_5),
  (0xF606, Ref.divF6_6),
  (0xF607, Ref.idivF6_7),
  (0xF700, Ref.testF7_0),
  (0xF702, Ref.notF7_2),
  (0xF703, Ref.negF7_3),
  (0xF704, Ref.mulF7_4),
  (0xF705, Ref.imulF7_5),
  (0xF706, Ref.divF7_6),
  (0xF707, Ref.idivF7_7),
  (0xFE00, Ref.incFE_0),
  (0xFE01, Ref.decFE_1),
  (0xFF00, Ref.incFF_0),
  (0xFF01, Ref.decFF_1),
  (0xFF02, Ref.callFF_2)]

/-- Part of TG. -/
def refTGRows3 : List Row := [
  (0xFF03, Ref.callfFF_3),
  (0xFF04, Ref.jmpFF_4),
  (0xFF05, Ref.jmpfFF_5),
  (0xFF06, Ref.pushFF_6),
  (0xF0000, Ref.sldt0F00_0),
  (0xF0001, Ref.str0F00_1),
  (0xF0002, Ref.lldt0F00_2),
  (0xF0003, Ref.ltr0F00_3),
  (0xF0004, Ref.verr0F00_4),
  (0xF0005, Ref.verw0F00_5),
  (0xF0100, Ref.sgdt0F01_0),
  (0xF0101, Ref.sidt0F01_1),
  (0xF0102, Ref.lgdt0F01_2),
  (0xF0103, Ref.lidt0F01_3),
  (0xF0104, Ref.smsw0F01_4),
  (0xF0106, Ref.lmsw0F01_6),
  (0xF0107, Ref.invlpg0F01_7),
  (0xFBA04, Ref.bt0FBA_4),
  (0xFBA05, Ref.bts0FBA_5),
  (0xFBA06, Ref.btr0FBA_6),
  (0xFBA07, Ref.btc0FBA_7),
  (0xFC701, Ref.cmpxchg8b0FC7_1)]

/-- TG of REF (R128). -/
def refTG : List Row :=
  refTGRows0 ++ refTGRows1 ++ refTGRows2 ++ refTGRows3

/-- REF, the default of OPTABLE (00_scope.md R12). -/
def refTables : Tables := ⟨refT1, refT2, refTG⟩

/-- The tables that RESET fixed (10_state.md R68). -/
def OpTable.tables : OpTable → Tables
  | .ref => refTables
  | .custom t => t

/-- The descriptor DESC names, through the context's tables. -/
def State.descOf (s : State) (r : DescRef) : Option Desc := r.resolve s.tables.tables Ref.xchg66_90

end Sys2Proof.Machine
end

