-- ==== Sys2Proof/Machine/Operands.lean ====
section
/-! DEFINITION. The operand forms: the ModR/M and SIB decoder (40_decode_pipeline.md R176 to R181) and the operand extractor
(R182 to R191), tag by tag. -/

namespace Sys2Proof.Machine

/-- sext_(8n) of an n-byte value into a 32-bit field (00_scope.md R16). -/
def sextBytes (n v : Nat) : Word := (BitVec.ofNat (8 * n) v).signExtend 32

/-- FIXED_IMM_EXT of an n-byte value (R187). -/
def extBytes (e : ImmExt) (n v : Nat) : Word :=
  match e with
  | .sign => sextBytes n v
  | .zero => BitVec.ofNat 32 v

/-! The ModR/M and SIB decoder. -/

/-- MOD, REG and RM (R176). -/
def setModRm (b : Byte) (w : Work) : Work :=
  w.setDi { w.di with mod := some (topField b), reg := some (midField b), rm := some (lowField b) }

/-- SCALE, INDEX and BASE (R179). -/
def setSib (b : Byte) (w : Work) : Work :=
  w.setDi { w.di with
    scale := 2 ^ (topField b).toNat
    index := some (midField b)
    base := some (lowField b) }

/-- DISP and DISP_SIZE from a read of n bytes (R180, R181). -/
def readDisp (n : Nat) (c : SizeClass) (w : Work) : Flow :=
  readN n w fun v w => .go (w.setDi { w.di with disp := some (sextBytes n v), dispSize := c })

/-- The 32-bit displacement (R180). -/
def disp32 (mod : BitVec 2) (rm : BitVec 3) (w : Work) : Flow :=
  if mod = 0 ∧ (rm = 5 ∨ (rm = 4 ∧ w.di.base = some 5)) then readDisp 4 .long w
  else if mod = 1 then readDisp 1 .byte w
  else if mod = 2 then readDisp 4 .long w
  else .go w

/-- The 16-bit displacement (R181). -/
def disp16 (mod : BitVec 2) (rm : BitVec 3) (w : Work) : Flow :=
  if mod = 0 ∧ rm = 6 then readDisp 2 .word w
  else if mod = 1 then readDisp 1 .byte w
  else if mod = 2 then readDisp 2 .word w
  else .go w

/-- The bytes after a ModR/M byte whose MOD is not 3 (R178). -/
def addressing (a : SizeClass) (mod : BitVec 2) (rm : BitVec 3) (w : Work) : Flow :=
  match a with
  | .long =>
    if rm = 4 then readByte w fun b w => disp32 mod rm (setSib b w)
    else disp32 mod rm w
  | .word => disp16 mod rm w
  | _ => raise .configAssert w

/-- ModRM() (R176 to R178) under a descriptor. -/
def modRm (d : Desc) (w : Work) : Flow :=
  readByte w fun b w =>
    let w := setModRm b w
    if topField b = 3 then .go w
    else addressing (adsize d w) (topField b) (lowField b) w

/-! The operand extractor. -/

/-- REG <- v. -/
def setReg (v : BitVec 3) (w : Work) : Flow := .go (w.setDi { w.di with reg := some v })

/-- REG from the opcode byte latch (R184, R185). -/
def regFromOpb (f : Byte → BitVec 3) (w : Work) : Flow :=
  .go (w.setDi { w.di with reg := w.di.opb.map f })

/-- IMM from a read of n bytes. -/
def readImm (n : Nat) (f : Nat → Word) (w : Work) : Flow :=
  readN n w fun v w => .go (w.setDi { w.di with imm := some (f v) })

/-- The action of one tag (R183 to R191). DEDUCED (log entry 26): a 1-byte IV, which R188 does not name, is extended per FIXED_IMM_EXT as
the 2-byte one is. -/
def extractTag (d : Desc) (t : Tag) (w : Work) : Flow :=
  match t with
  | .al | .eax => setReg 0 w
  | .cl => setReg 1 w
  | .dx => setReg 2 w
  | .yb | .yv => setReg 7 w
  | .zb | .zv | .zd => regFromOpb (fun b => b.extractLsb' 0 3) w
  | .seg2 => regFromOpb (fun b => (b.extractLsb' 3 2).setWidth 3) w
  | .fs => setReg 4 w
  | .gs => setReg 5 w
  | .ib => readImm 1 (extBytes w.ctx.immExt 1) w
  | .iw => readImm 2 (extBytes w.ctx.immExt 2) w
  | .il => readImm 4 (BitVec.ofNat 32) w
  | .iv =>
    let n := readWidth (opsize d w)
    readImm n (if n = 4 then BitVec.ofNat 32 else extBytes w.ctx.immExt n) w
  | .ov | .jv => readImm (readWidth (adsize d w)) (BitVec.ofNat 32) w
  | .ibs | .jb => readImm 1 (sextBytes 1) w
  | .none | .gb | .gw | .gv | .eb | .ew | .ev | .m | .rd | .sw | .cr | .dr | .xb | .xv | .other _ => .go w

/-- ExtractOperands() (R182): the tags in order, up to the first NONE. -/
def extractTags (d : Desc) : List Tag → Work → Flow
  | [], w => .go w
  | .none :: _, w => .go w
  | t :: ts, w => (extractTag d t w).andThen (extractTags d ts)

end Sys2Proof.Machine
end

