-- ==== Sys2Proof/Machine/Stages.lean ====
section
/-! DEFINITION. The DECODE transaction of a known descriptor (40_decode_pipeline.md R161, R167 to R175, R182, R197): what the meanings
of the table's rows are made of. Each reads the row's bytes through the cursor, from the opcode byte (the escape byte) on. -/

namespace Sys2Proof.Machine

/-- A lookup that found a descriptor: OPKEY, DESC, and the SZOVR load (R170, R172). -/
def select (ref : DescRef) (key : Nat) (d : Desc) (w : Work) : Work :=
  w.setDi { w.di with opkey := some key, desc := some ref, szovr := d.szovr }

/-- The ModR/M stage, where the descriptor asks for it (R173). -/
def modRmStage (d : Desc) (w : Work) : Flow := if d.modRm then modRm d w else .go w

/-- The operand stage and success (R182, R197). -/
def operandStage (d : Desc) (w : Work) : Flow := (extractTags d d.tags w).andThen complete

/-- The rest of DECODE after a lookup that found a descriptor without GROUP. -/
def finishRow (ref : DescRef) (key : Nat) (d : Desc) (w : Work) : Flow :=
  (modRmStage d (select ref key d w)).andThen (operandStage d)

/-- The rest of DECODE after a lookup that found the group-dispatch entry `p`, for the member `d` (R173, R174). -/
def finishMember (ref : DescRef) (primary : Nat) (p : Desc) (digit : Nat) (d : Desc) (w : Work) : Flow :=
  (modRmStage p (select ref primary p w)).andThen fun w =>
    operandStage d (select (.tg (primary * 256 + digit)) (primary * 256 + digit) d w)

/-- The opcode byte of a one-byte row (R167). -/
def opcode1 (b : Byte) (s : State) (k : Work → Flow) : Flow :=
  readByte (enter s) fun _ w => k (latchOpcode b w)

/-- The escape and the opcode byte of a two-byte row (R167, R169). -/
def opcode2 (b2 : Byte) (s : State) (k : Work → Flow) : Flow :=
  readByte (enter s) fun _ w => readByte (latchOpcode 0x0F w) fun _ w => k (latchOpcode b2 w)

/-- A row of T1. -/
def oneByte (b : Byte) (d : Desc) (s : State) : Result :=
  .next (opcode1 b s (finishRow (.t1 b) b.toNat d)).state

/-- A row of T1 whose opcode byte holds a register in its low bits. -/
def oneByteReg (base : Byte) (d : Desc) (s : State) : Result :=
  .next (readByte (enter s) fun b w =>
    let k := regByte base (lowField b)
    finishRow (.t1 k) k.toNat d (latchOpcode k w)).state

/-- A row of T2. -/
def twoByte (b2 : Byte) (d : Desc) (s : State) : Result :=
  .next (opcode2 b2 s (finishRow (.t2 b2) (0x0F00 + b2.toNat) d)).state

/-- A row of T2 whose opcode byte holds a register in its low bits. -/
def twoByteReg (base : Byte) (d : Desc) (s : State) : Result :=
  .next (readByte (enter s) fun _ w => readByte (latchOpcode 0x0F w) fun b2 w =>
    let k := regByte base (lowField b2)
    finishRow (.t2 k) (0x0F00 + k.toNat) d (latchOpcode k w)).state

/-- A row of TG under a one-byte primary `p`. -/
def oneByteMember (b : Byte) (p : Desc) (digit : Nat) (d : Desc) (s : State) : Result :=
  .next (opcode1 b s (finishMember (.t1 b) b.toNat p digit d)).state

/-- A row of TG under a two-byte primary `p`. -/
def twoByteMember (b2 : Byte) (p : Desc) (digit : Nat) (d : Desc) (s : State) : Result :=
  .next (opcode2 b2 s (finishMember (.t2 b2) (0x0F00 + b2.toNat) p digit d)).state

/-- The hard-coded case (R168). -/
def hardCoded (b : Byte) (d : Desc) (s : State) : Result :=
  .next (opcode1 b s (finishRow .xchg66 b.toNat d)).state

/-- A prefix row (R164, R165): its byte is consumed and recorded, and the DECODE goes on. -/
def prefixRow (bit : Nat) (s : State) : Result :=
  .next (readByte (enter s) fun _ w => .go (recordPrefix bit w)).state

/-- The escape's row (R169, R171): the second byte is read and looked up in `t2`; a null entry ends the DECODE, another leaves it in
progress with its descriptor loaded. -/
def escapeRow (t2 : Nat → Option Desc) (s : State) : Result :=
  .next (readByte (enter s) fun _ w => readByte (latchOpcode 0x0F w) fun b2 w =>
    let w := latchOpcode b2 w
    match t2 b2.toNat with
    | some d => .go (select (.t2 b2) (0x0F00 + b2.toNat) d w)
    | none => lookupFailed (0x0F00 + b2.toNat) .unknownOpcode w).state

/-- Group resolution (R174, R175): an absent digit ends the DECODE, a present one leaves it in progress with its descriptor loaded. -/
def resolveGroup (tg : Nat → Option Desc) (primary : Nat) (w : Work) : Flow :=
  match w.di.reg with
  | some r =>
    match tg (primary * 256 + r.toNat) with
    | some d => .go (select (.tg (primary * 256 + r.toNat)) (primary * 256 + r.toNat) d w)
    | none => lookupFailed (primary * 256 + r.toNat) .groupLookupFailed w
  | none => lookupFailed (primary * 256) .groupLookupFailed w

/-- The row of a group-dispatch entry `p` of T1 (R173 to R175). -/
def oneByteDispatch (tg : Nat → Option Desc) (b : Byte) (p : Desc) (s : State) : Result :=
  .next (opcode1 b s fun w =>
    (modRmStage p (select (.t1 b) b.toNat p w)).andThen (resolveGroup tg b.toNat)).state

/-- The row of a group-dispatch entry `p` of T2. -/
def twoByteDispatch (tg : Nat → Option Desc) (b2 : Byte) (p : Desc) (s : State) : Result :=
  .next (opcode2 b2 s fun w =>
    (modRmStage p (select (.t2 b2) (0x0F00 + b2.toNat) p w)).andThen (resolveGroup tg (0x0F00 + b2.toNat))).state

/-- A one-byte opcode whose T1 entry is null (R170, R171). -/
def nullOpcode (s : State) : State :=
  (readByte (enter s) fun b w => lookupFailed b.toNat .unknownOpcode (latchOpcode b w)).state

/-- A DECODE that finds no opcode byte (R166). -/
def noOpcode (s : State) : State := (readByte (enter s) fun _ w => .go w).state

end Sys2Proof.Machine
end

