-- ==== Sys2Proof/Machine/Arith.lean ====
section
/-! DEFINITION. The meanings of the rows of integer arithmetic and logic (41_arith.md). A row's meaning is the DECODE transaction with
its descriptor (40_decode_pipeline.md R161): nothing is executed on an x86 register (00_scope.md R6). -/

namespace Sys2Proof.Machine

/-- `add`: 00 /r, operands EB, GB (R301). -/
def execAdd00 (s : State) : Result := oneByte 0x00 Ref.add00 s

/-- `add`: 01 /r, operands EV, GV (R301). -/
def execAdd01 (s : State) : Result := oneByte 0x01 Ref.add01 s

/-- `add`: 02 /r, operands GB, EB (R301). -/
def execAdd02 (s : State) : Result := oneByte 0x02 Ref.add02 s

/-- `add`: 03 /r, operands GV, EV (R301). -/
def execAdd03 (s : State) : Result := oneByte 0x03 Ref.add03 s

/-- `add`: 04 ib, operands AL, IB (R301). -/
def execAdd04 (s : State) : Result := oneByte 0x04 Ref.add04 s

/-- `add`: 05 iv, operands EAX, IV (R301). -/
def execAdd05 (s : State) : Result := oneByte 0x05 Ref.add05 s

/-- `or`: 08 /r, operands EB, GB (R302). -/
def execOr08 (s : State) : Result := oneByte 0x08 Ref.or08 s

/-- `or`: 09 /r, operands EV, GV (R302). -/
def execOr09 (s : State) : Result := oneByte 0x09 Ref.or09 s

/-- `or`: 0a /r, operands GB, EB (R302). -/
def execOr0A (s : State) : Result := oneByte 0x0A Ref.or0A s

/-- `or`: 0b /r, operands GV, EV (R302). -/
def execOr0B (s : State) : Result := oneByte 0x0B Ref.or0B s

/-- `or`: 0c ib, operands AL, IB (R302). -/
def execOr0C (s : State) : Result := oneByte 0x0C Ref.or0C s

/-- `or`: 0d iv, operands EAX, IV (R302). -/
def execOr0D (s : State) : Result := oneByte 0x0D Ref.or0D s

/-- `adc`: 10 /r, operands EB, GB (R303). -/
def execAdc10 (s : State) : Result := oneByte 0x10 Ref.adc10 s

/-- `adc`: 11 /r, operands EV, GV (R303). -/
def execAdc11 (s : State) : Result := oneByte 0x11 Ref.adc11 s

/-- `adc`: 12 /r, operands GB, EB (R303). -/
def execAdc12 (s : State) : Result := oneByte 0x12 Ref.adc12 s

/-- `adc`: 13 /r, operands GV, EV (R303). -/
def execAdc13 (s : State) : Result := oneByte 0x13 Ref.adc13 s

/-- `adc`: 14 ib, operands AL, IB (R303). -/
def execAdc14 (s : State) : Result := oneByte 0x14 Ref.adc14 s

/-- `adc`: 15 iv, operands EAX, IV (R303). -/
def execAdc15 (s : State) : Result := oneByte 0x15 Ref.adc15 s

/-- `sbb`: 18 /r, operands EB, GB (R304). -/
def execSbb18 (s : State) : Result := oneByte 0x18 Ref.sbb18 s

/-- `sbb`: 19 /r, operands EV, GV (R304). -/
def execSbb19 (s : State) : Result := oneByte 0x19 Ref.sbb19 s

/-- `sbb`: 1a /r, operands GB, EB (R304). -/
def execSbb1A (s : State) : Result := oneByte 0x1A Ref.sbb1A s

/-- `sbb`: 1b /r, operands GV, EV (R304). -/
def execSbb1B (s : State) : Result := oneByte 0x1B Ref.sbb1B s

/-- `sbb`: 1c ib, operands AL, IB (R304). -/
def execSbb1C (s : State) : Result := oneByte 0x1C Ref.sbb1C s

/-- `sbb`: 1d iv, operands EAX, IV (R304). -/
def execSbb1D (s : State) : Result := oneByte 0x1D Ref.sbb1D s

/-- `and`: 20 /r, operands EB, GB (R305). -/
def execAnd20 (s : State) : Result := oneByte 0x20 Ref.and20 s

/-- `and`: 21 /r, operands EV, GV (R305). -/
def execAnd21 (s : State) : Result := oneByte 0x21 Ref.and21 s

/-- `and`: 22 /r, operands GB, EB (R305). -/
def execAnd22 (s : State) : Result := oneByte 0x22 Ref.and22 s

/-- `and`: 23 /r, operands GV, EV (R305). -/
def execAnd23 (s : State) : Result := oneByte 0x23 Ref.and23 s

/-- `and`: 24 ib, operands AL, IB (R305). -/
def execAnd24 (s : State) : Result := oneByte 0x24 Ref.and24 s

/-- `and`: 25 iv, operands EAX, IV (R305). -/
def execAnd25 (s : State) : Result := oneByte 0x25 Ref.and25 s

/-- `sub`: 28 /r, operands EB, GB (R306). -/
def execSub28 (s : State) : Result := oneByte 0x28 Ref.sub28 s

/-- `sub`: 29 /r, operands EV, GV (R306). -/
def execSub29 (s : State) : Result := oneByte 0x29 Ref.sub29 s

/-- `sub`: 2a /r, operands GB, EB (R306). -/
def execSub2A (s : State) : Result := oneByte 0x2A Ref.sub2A s

/-- `sub`: 2b /r, operands GV, EV (R306). -/
def execSub2B (s : State) : Result := oneByte 0x2B Ref.sub2B s

/-- `sub`: 2c ib, operands AL, IB (R306). -/
def execSub2C (s : State) : Result := oneByte 0x2C Ref.sub2C s

/-- `sub`: 2d iv, operands EAX, IV (R306). -/
def execSub2D (s : State) : Result := oneByte 0x2D Ref.sub2D s

/-- `xor`: 30 /r, operands EB, GB (R307). -/
def execXor30 (s : State) : Result := oneByte 0x30 Ref.xor30 s

/-- `xor`: 31 /r, operands EV, GV (R307). -/
def execXor31 (s : State) : Result := oneByte 0x31 Ref.xor31 s

/-- `xor`: 32 /r, operands GB, EB (R307). -/
def execXor32 (s : State) : Result := oneByte 0x32 Ref.xor32 s

/-- `xor`: 33 /r, operands GV, EV (R307). -/
def execXor33 (s : State) : Result := oneByte 0x33 Ref.xor33 s

/-- `xor`: 34 ib, operands AL, IB (R307). -/
def execXor34 (s : State) : Result := oneByte 0x34 Ref.xor34 s

/-- `xor`: 35 iv, operands EAX, IV (R307). -/
def execXor35 (s : State) : Result := oneByte 0x35 Ref.xor35 s

/-- `cmp`: 38 /r, operands EB, GB (R308). -/
def execCmp38 (s : State) : Result := oneByte 0x38 Ref.cmp38 s

/-- `cmp`: 39 /r, operands EV, GV (R308). -/
def execCmp39 (s : State) : Result := oneByte 0x39 Ref.cmp39 s

/-- `cmp`: 3a /r, operands GB, EB (R308). -/
def execCmp3A (s : State) : Result := oneByte 0x3A Ref.cmp3A s

/-- `cmp`: 3b /r, operands GV, EV (R308). -/
def execCmp3B (s : State) : Result := oneByte 0x3B Ref.cmp3B s

/-- `cmp`: 3c ib, operands AL, IB (R308). -/
def execCmp3C (s : State) : Result := oneByte 0x3C Ref.cmp3C s

/-- `cmp`: 3d iv, operands EAX, IV (R308). -/
def execCmp3D (s : State) : Result := oneByte 0x3D Ref.cmp3D s

/-- `daa`: 27 (R309). -/
def execDaa27 (s : State) : Result := oneByte 0x27 Ref.daa27 s

/-- `das`: 2f (R310). -/
def execDas2F (s : State) : Result := oneByte 0x2F Ref.das2F s

/-- `aaa`: 37 (R311). -/
def execAaa37 (s : State) : Result := oneByte 0x37 Ref.aaa37 s

/-- `aas`: 3f (R312). -/
def execAas3F (s : State) : Result := oneByte 0x3F Ref.aas3F s

/-- `inc`: 40+r, operands ZV (R313). -/
def execInc40 (s : State) : Result := oneByteReg 0x40 Ref.inc40 s

/-- `dec`: 48+r, operands ZV (R314). -/
def execDec48 (s : State) : Result := oneByteReg 0x48 Ref.dec48 s

/-- `imul`: 69 /r iv, operands GV, EV, IV (R315). -/
def execImul69 (s : State) : Result := oneByte 0x69 Ref.imul69 s

/-- `imul`: 6b /r ib(s), operands GV, EV, IBS (R315). -/
def execImul6B (s : State) : Result := oneByte 0x6B Ref.imul6B s

/-- `add`: 80 /0 ib, operands EB, IB (R301). -/
def execAdd80_0 (s : State) : Result := oneByteMember 0x80 Ref.dispatch80 0 Ref.add80_0 s

/-- `or`: 80 /1 ib, operands EB, IB (R302). -/
def execOr80_1 (s : State) : Result := oneByteMember 0x80 Ref.dispatch80 1 Ref.or80_1 s

/-- `adc`: 80 /2 ib, operands EB, IB (R303). -/
def execAdc80_2 (s : State) : Result := oneByteMember 0x80 Ref.dispatch80 2 Ref.adc80_2 s

/-- `sbb`: 80 /3 ib, operands EB, IB (R304). -/
def execSbb80_3 (s : State) : Result := oneByteMember 0x80 Ref.dispatch80 3 Ref.sbb80_3 s

/-- `and`: 80 /4 ib, operands EB, IB (R305). -/
def execAnd80_4 (s : State) : Result := oneByteMember 0x80 Ref.dispatch80 4 Ref.and80_4 s

/-- `sub`: 80 /5 ib, operands EB, IB (R306). -/
def execSub80_5 (s : State) : Result := oneByteMember 0x80 Ref.dispatch80 5 Ref.sub80_5 s

/-- `xor`: 80 /6 ib, operands EB, IB (R307). -/
def execXor80_6 (s : State) : Result := oneByteMember 0x80 Ref.dispatch80 6 Ref.xor80_6 s

/-- `cmp`: 80 /7 ib, operands EB, IB (R308). -/
def execCmp80_7 (s : State) : Result := oneByteMember 0x80 Ref.dispatch80 7 Ref.cmp80_7 s

/-- `add`: 81 /0 iv, operands EV, IV (R301). -/
def execAdd81_0 (s : State) : Result := oneByteMember 0x81 Ref.dispatch81 0 Ref.add81_0 s

/-- `or`: 81 /1 iv, operands EV, IV (R302). -/
def execOr81_1 (s : State) : Result := oneByteMember 0x81 Ref.dispatch81 1 Ref.or81_1 s

/-- `adc`: 81 /2 iv, operands EV, IV (R303). -/
def execAdc81_2 (s : State) : Result := oneByteMember 0x81 Ref.dispatch81 2 Ref.adc81_2 s

/-- `sbb`: 81 /3 iv, operands EV, IV (R304). -/
def execSbb81_3 (s : State) : Result := oneByteMember 0x81 Ref.dispatch81 3 Ref.sbb81_3 s

/-- `and`: 81 /4 iv, operands EV, IV (R305). -/
def execAnd81_4 (s : State) : Result := oneByteMember 0x81 Ref.dispatch81 4 Ref.and81_4 s

/-- `sub`: 81 /5 iv, operands EV, IV (R306). -/
def execSub81_5 (s : State) : Result := oneByteMember 0x81 Ref.dispatch81 5 Ref.sub81_5 s

/-- `xor`: 81 /6 iv, operands EV, IV (R307). -/
def execXor81_6 (s : State) : Result := oneByteMember 0x81 Ref.dispatch81 6 Ref.xor81_6 s

/-- `cmp`: 81 /7 iv, operands EV, IV (R308). -/
def execCmp81_7 (s : State) : Result := oneByteMember 0x81 Ref.dispatch81 7 Ref.cmp81_7 s

/-- `add`: 82 /0 ib, operands EB, IB (R301). -/
def execAdd82_0 (s : State) : Result := oneByteMember 0x82 Ref.dispatch82 0 Ref.add82_0 s

/-- `or`: 82 /1 ib, operands EB, IB (R302). -/
def execOr82_1 (s : State) : Result := oneByteMember 0x82 Ref.dispatch82 1 Ref.or82_1 s

/-- `adc`: 82 /2 ib, operands EB, IB (R303). -/
def execAdc82_2 (s : State) : Result := oneByteMember 0x82 Ref.dispatch82 2 Ref.adc82_2 s

/-- `sbb`: 82 /3 ib, operands EB, IB (R304). -/
def execSbb82_3 (s : State) : Result := oneByteMember 0x82 Ref.dispatch82 3 Ref.sbb82_3 s

/-- `and`: 82 /4 ib, operands EB, IB (R305). -/
def execAnd82_4 (s : State) : Result := oneByteMember 0x82 Ref.dispatch82 4 Ref.and82_4 s

/-- `sub`: 82 /5 ib, operands EB, IB (R306). -/
def execSub82_5 (s : State) : Result := oneByteMember 0x82 Ref.dispatch82 5 Ref.sub82_5 s

/-- `xor`: 82 /6 ib, operands EB, IB (R307). -/
def execXor82_6 (s : State) : Result := oneByteMember 0x82 Ref.dispatch82 6 Ref.xor82_6 s

/-- `cmp`: 82 /7 ib, operands EB, IB (R308). -/
def execCmp82_7 (s : State) : Result := oneByteMember 0x82 Ref.dispatch82 7 Ref.cmp82_7 s

/-- `add`: 83 /0 ib(s), operands EV, IBS (R301). -/
def execAdd83_0 (s : State) : Result := oneByteMember 0x83 Ref.dispatch83 0 Ref.add83_0 s

/-- `or`: 83 /1 ib(s), operands EV, IBS (R302). -/
def execOr83_1 (s : State) : Result := oneByteMember 0x83 Ref.dispatch83 1 Ref.or83_1 s

/-- `adc`: 83 /2 ib(s), operands EV, IBS (R303). -/
def execAdc83_2 (s : State) : Result := oneByteMember 0x83 Ref.dispatch83 2 Ref.adc83_2 s

/-- `sbb`: 83 /3 ib(s), operands EV, IBS (R304). -/
def execSbb83_3 (s : State) : Result := oneByteMember 0x83 Ref.dispatch83 3 Ref.sbb83_3 s

/-- `and`: 83 /4 ib(s), operands EV, IBS (R305). -/
def execAnd83_4 (s : State) : Result := oneByteMember 0x83 Ref.dispatch83 4 Ref.and83_4 s

/-- `sub`: 83 /5 ib(s), operands EV, IBS (R306). -/
def execSub83_5 (s : State) : Result := oneByteMember 0x83 Ref.dispatch83 5 Ref.sub83_5 s

/-- `xor`: 83 /6 ib(s), operands EV, IBS (R307). -/
def execXor83_6 (s : State) : Result := oneByteMember 0x83 Ref.dispatch83 6 Ref.xor83_6 s

/-- `cmp`: 83 /7 ib(s), operands EV, IBS (R308). -/
def execCmp83_7 (s : State) : Result := oneByteMember 0x83 Ref.dispatch83 7 Ref.cmp83_7 s

/-- `test`: 84 /r, operands EB, GB (R316). -/
def execTest84 (s : State) : Result := oneByte 0x84 Ref.test84 s

/-- `test`: 85 /r, operands EV, GV (R316). -/
def execTest85 (s : State) : Result := oneByte 0x85 Ref.test85 s

/-- `test`: a8 ib, operands AL, IB (R316). -/
def execTestA8 (s : State) : Result := oneByte 0xA8 Ref.testA8 s

/-- `test`: a9 iv, operands EAX, IV (R316). -/
def execTestA9 (s : State) : Result := oneByte 0xA9 Ref.testA9 s

/-- `aam`: d4 ib, operands IB (R317). -/
def execAamD4 (s : State) : Result := oneByte 0xD4 Ref.aamD4 s

/-- `aad`: d5 ib, operands IB (R318). -/
def execAadD5 (s : State) : Result := oneByte 0xD5 Ref.aadD5 s

/-- `test`: f6 /0 ib, operands EB, IB (R316). -/
def execTestF6_0 (s : State) : Result := oneByteMember 0xF6 Ref.dispatchF6 0 Ref.testF6_0 s

/-- `not`: f6 /2, operands EB (R319). -/
def execNotF6_2 (s : State) : Result := oneByteMember 0xF6 Ref.dispatchF6 2 Ref.notF6_2 s

/-- `neg`: f6 /3, operands EB (R320). -/
def execNegF6_3 (s : State) : Result := oneByteMember 0xF6 Ref.dispatchF6 3 Ref.negF6_3 s

/-- `mul`: f6 /4, operands EB (R321). -/
def execMulF6_4 (s : State) : Result := oneByteMember 0xF6 Ref.dispatchF6 4 Ref.mulF6_4 s

/-- `imul`: f6 /5, operands EB (R315). -/
def execImulF6_5 (s : State) : Result := oneByteMember 0xF6 Ref.dispatchF6 5 Ref.imulF6_5 s

/-- `div`: f6 /6, operands EB (R322). -/
def execDivF6_6 (s : State) : Result := oneByteMember 0xF6 Ref.dispatchF6 6 Ref.divF6_6 s

/-- `idiv`: f6 /7, operands EB (R323). -/
def execIdivF6_7 (s : State) : Result := oneByteMember 0xF6 Ref.dispatchF6 7 Ref.idivF6_7 s

/-- `test`: f7 /0 iv, operands EV, IV (R316). -/
def execTestF7_0 (s : State) : Result := oneByteMember 0xF7 Ref.dispatchF7 0 Ref.testF7_0 s

/-- `not`: f7 /2, operands EV (R319). -/
def execNotF7_2 (s : State) : Result := oneByteMember 0xF7 Ref.dispatchF7 2 Ref.notF7_2 s

/-- `neg`: f7 /3, operands EV (R320). -/
def execNegF7_3 (s : State) : Result := oneByteMember 0xF7 Ref.dispatchF7 3 Ref.negF7_3 s

/-- `mul`: f7 /4, operands EV (R321). -/
def execMulF7_4 (s : State) : Result := oneByteMember 0xF7 Ref.dispatchF7 4 Ref.mulF7_4 s

/-- `imul`: f7 /5, operands EV (R315). -/
def execImulF7_5 (s : State) : Result := oneByteMember 0xF7 Ref.dispatchF7 5 Ref.imulF7_5 s

/-- `div`: f7 /6, operands EV (R322). -/
def execDivF7_6 (s : State) : Result := oneByteMember 0xF7 Ref.dispatchF7 6 Ref.divF7_6 s

/-- `idiv`: f7 /7, operands EV (R323). -/
def execIdivF7_7 (s : State) : Result := oneByteMember 0xF7 Ref.dispatchF7 7 Ref.idivF7_7 s

/-- `inc`: fe /0, operands EB (R313). -/
def execIncFE_0 (s : State) : Result := oneByteMember 0xFE Ref.dispatchFE 0 Ref.incFE_0 s

/-- `dec`: fe /1, operands EB (R314). -/
def execDecFE_1 (s : State) : Result := oneByteMember 0xFE Ref.dispatchFE 1 Ref.decFE_1 s

/-- `inc`: ff /0, operands EV (R313). -/
def execIncFF_0 (s : State) : Result := oneByteMember 0xFF Ref.dispatchFF 0 Ref.incFF_0 s

/-- `dec`: ff /1, operands EV (R314). -/
def execDecFF_1 (s : State) : Result := oneByteMember 0xFF Ref.dispatchFF 1 Ref.decFF_1 s

/-- `imul`: 0f af /r, operands GV, EV (R315). -/
def execImul0FAF (s : State) : Result := twoByte 0xAF Ref.imul0FAF s

/-- `cmpxchg`: 0f b0 /r, operands EB, GB (R324). -/
def execCmpxchg0FB0 (s : State) : Result := twoByte 0xB0 Ref.cmpxchg0FB0 s

/-- `cmpxchg`: 0f b1 /r, operands EV, GV (R324). -/
def execCmpxchg0FB1 (s : State) : Result := twoByte 0xB1 Ref.cmpxchg0FB1 s

/-- `xadd`: 0f c0 /r, operands EB, GB (R325). -/
def execXadd0FC0 (s : State) : Result := twoByte 0xC0 Ref.xadd0FC0 s

/-- `xadd`: 0f c1 /r, operands EV, GV (R325). -/
def execXadd0FC1 (s : State) : Result := twoByte 0xC1 Ref.xadd0FC1 s

/-- `cmpxchg8b`: 0f c7 /1, operands M (R326). -/
def execCmpxchg8b0FC7_1 (s : State) : Result := twoByteMember 0xC7 Ref.dispatch0FC7 1 Ref.cmpxchg8b0FC7_1 s

end Sys2Proof.Machine
end

