-- ==== Sys2Proof/Machine/Control.lean ====
section
/-! DEFINITION. The meanings of the rows of control transfer (44_control.md). A row's meaning is the DECODE transaction with
its descriptor (40_decode_pipeline.md R161): nothing is executed on an x86 register (00_scope.md R6). -/

namespace Sys2Proof.Machine

/-- `jo`: 70 cb, operands JB (R393). -/
def execJo70 (s : State) : Result := oneByte 0x70 Ref.jo70 s

/-- `jno`: 71 cb, operands JB (R394). -/
def execJno71 (s : State) : Result := oneByte 0x71 Ref.jno71 s

/-- `jb`: 72 cb, operands JB (R395). -/
def execJb72 (s : State) : Result := oneByte 0x72 Ref.jb72 s

/-- `jae`: 73 cb, operands JB (R396). -/
def execJae73 (s : State) : Result := oneByte 0x73 Ref.jae73 s

/-- `je`: 74 cb, operands JB (R397). -/
def execJe74 (s : State) : Result := oneByte 0x74 Ref.je74 s

/-- `jne`: 75 cb, operands JB (R398). -/
def execJne75 (s : State) : Result := oneByte 0x75 Ref.jne75 s

/-- `jbe`: 76 cb, operands JB (R399). -/
def execJbe76 (s : State) : Result := oneByte 0x76 Ref.jbe76 s

/-- `ja`: 77 cb, operands JB (R400). -/
def execJa77 (s : State) : Result := oneByte 0x77 Ref.ja77 s

/-- `js`: 78 cb, operands JB (R401). -/
def execJs78 (s : State) : Result := oneByte 0x78 Ref.js78 s

/-- `jns`: 79 cb, operands JB (R402). -/
def execJns79 (s : State) : Result := oneByte 0x79 Ref.jns79 s

/-- `jp`: 7a cb, operands JB (R403). -/
def execJp7A (s : State) : Result := oneByte 0x7A Ref.jp7A s

/-- `jnp`: 7b cb, operands JB (R404). -/
def execJnp7B (s : State) : Result := oneByte 0x7B Ref.jnp7B s

/-- `jl`: 7c cb, operands JB (R405). -/
def execJl7C (s : State) : Result := oneByte 0x7C Ref.jl7C s

/-- `jge`: 7d cb, operands JB (R406). -/
def execJge7D (s : State) : Result := oneByte 0x7D Ref.jge7D s

/-- `jle`: 7e cb, operands JB (R407). -/
def execJle7E (s : State) : Result := oneByte 0x7E Ref.jle7E s

/-- `jg`: 7f cb, operands JB (R408). -/
def execJg7F (s : State) : Result := oneByte 0x7F Ref.jg7F s

/-- `ret`: c2 iw, operands IW (R409). -/
def execRetC2 (s : State) : Result := oneByte 0xC2 Ref.retC2 s

/-- `ret`: c3 (R409). -/
def execRetC3 (s : State) : Result := oneByte 0xC3 Ref.retC3 s

/-- `retf`: ca iw, operands IW (R410). -/
def execRetfCA (s : State) : Result := oneByte 0xCA Ref.retfCA s

/-- `retf`: cb (R410). -/
def execRetfCB (s : State) : Result := oneByte 0xCB Ref.retfCB s

/-- `int3`: cc (R411). -/
def execInt3CC (s : State) : Result := oneByte 0xCC Ref.int3CC s

/-- `int`: cd ib, operands IB (R412). -/
def execIntCD (s : State) : Result := oneByte 0xCD Ref.intCD s

/-- `into`: ce (R413). -/
def execIntoCE (s : State) : Result := oneByte 0xCE Ref.intoCE s

/-- `iret`: cf (R414). -/
def execIretCF (s : State) : Result := oneByte 0xCF Ref.iretCF s

/-- `loopne`: e0 cb, operands JB (R415). -/
def execLoopneE0 (s : State) : Result := oneByte 0xE0 Ref.loopneE0 s

/-- `loope`: e1 cb, operands JB (R416). -/
def execLoopeE1 (s : State) : Result := oneByte 0xE1 Ref.loopeE1 s

/-- `loop`: e2 cb, operands JB (R417). -/
def execLoopE2 (s : State) : Result := oneByte 0xE2 Ref.loopE2 s

/-- `jecxz`: e3 cb, operands JB (R418). -/
def execJecxzE3 (s : State) : Result := oneByte 0xE3 Ref.jecxzE3 s

/-- `call`: e8 cv(ad), operands JV (R419). -/
def execCallE8 (s : State) : Result := oneByte 0xE8 Ref.callE8 s

/-- `jmp`: e9 cv(ad), operands JV (R420). -/
def execJmpE9 (s : State) : Result := oneByte 0xE9 Ref.jmpE9 s

/-- `jmp`: eb cb, operands JB (R420). -/
def execJmpEB (s : State) : Result := oneByte 0xEB Ref.jmpEB s

/-- `call`: ff /2, operands EV (R419). -/
def execCallFF_2 (s : State) : Result := oneByteMember 0xFF Ref.dispatchFF 2 Ref.callFF_2 s

/-- `callf`: ff /3, operands M (R421). -/
def execCallfFF_3 (s : State) : Result := oneByteMember 0xFF Ref.dispatchFF 3 Ref.callfFF_3 s

/-- `jmp`: ff /4, operands EV (R420). -/
def execJmpFF_4 (s : State) : Result := oneByteMember 0xFF Ref.dispatchFF 4 Ref.jmpFF_4 s

/-- `jmpf`: ff /5, operands M (R422). -/
def execJmpfFF_5 (s : State) : Result := oneByteMember 0xFF Ref.dispatchFF 5 Ref.jmpfFF_5 s

/-- `jo`: 0f 80 cv(ad), operands JV (R393). -/
def execJo0F80 (s : State) : Result := twoByte 0x80 Ref.jo0F80 s

/-- `jno`: 0f 81 cv(ad), operands JV (R394). -/
def execJno0F81 (s : State) : Result := twoByte 0x81 Ref.jno0F81 s

/-- `jb`: 0f 82 cv(ad), operands JV (R395). -/
def execJb0F82 (s : State) : Result := twoByte 0x82 Ref.jb0F82 s

/-- `jae`: 0f 83 cv(ad), operands JV (R396). -/
def execJae0F83 (s : State) : Result := twoByte 0x83 Ref.jae0F83 s

/-- `je`: 0f 84 cv(ad), operands JV (R397). -/
def execJe0F84 (s : State) : Result := twoByte 0x84 Ref.je0F84 s

/-- `jne`: 0f 85 cv(ad), operands JV (R398). -/
def execJne0F85 (s : State) : Result := twoByte 0x85 Ref.jne0F85 s

/-- `jbe`: 0f 86 cv(ad), operands JV (R399). -/
def execJbe0F86 (s : State) : Result := twoByte 0x86 Ref.jbe0F86 s

/-- `ja`: 0f 87 cv(ad), operands JV (R400). -/
def execJa0F87 (s : State) : Result := twoByte 0x87 Ref.ja0F87 s

/-- `js`: 0f 88 cv(ad), operands JV (R401). -/
def execJs0F88 (s : State) : Result := twoByte 0x88 Ref.js0F88 s

/-- `jns`: 0f 89 cv(ad), operands JV (R402). -/
def execJns0F89 (s : State) : Result := twoByte 0x89 Ref.jns0F89 s

/-- `jp`: 0f 8a cv(ad), operands JV (R403). -/
def execJp0F8A (s : State) : Result := twoByte 0x8A Ref.jp0F8A s

/-- `jnp`: 0f 8b cv(ad), operands JV (R404). -/
def execJnp0F8B (s : State) : Result := twoByte 0x8B Ref.jnp0F8B s

/-- `jl`: 0f 8c cv(ad), operands JV (R405). -/
def execJl0F8C (s : State) : Result := twoByte 0x8C Ref.jl0F8C s

/-- `jge`: 0f 8d cv(ad), operands JV (R406). -/
def execJge0F8D (s : State) : Result := twoByte 0x8D Ref.jge0F8D s

/-- `jle`: 0f 8e cv(ad), operands JV (R407). -/
def execJle0F8E (s : State) : Result := twoByte 0x8E Ref.jle0F8E s

/-- `jg`: 0f 8f cv(ad), operands JV (R408). -/
def execJg0F8F (s : State) : Result := twoByte 0x8F Ref.jg0F8F s

end Sys2Proof.Machine
end

