-- ==== Sys2Proof/Machine/FlagsMisc.lean ====
section
/-! DEFINITION. The meanings of the rows of flag and miscellaneous instructions (47_flags_misc.md). A row's meaning is the DECODE transaction with
its descriptor (40_decode_pipeline.md R161): nothing is executed on an x86 register (00_scope.md R6). -/

namespace Sys2Proof.Machine

/-- `nop`: 90 (R466). -/
def execNop90 (s : State) : Result := oneByte 0x90 Ref.nop90 s

/-- `fwait`: 9b (R467). -/
def execFwait9B (s : State) : Result := oneByte 0x9B Ref.fwait9B s

/-- `pushf`: 9c (R468). -/
def execPushf9C (s : State) : Result := oneByte 0x9C Ref.pushf9C s

/-- `popf`: 9d (R469). -/
def execPopf9D (s : State) : Result := oneByte 0x9D Ref.popf9D s

/-- `sahf`: 9e (R470). -/
def execSahf9E (s : State) : Result := oneByte 0x9E Ref.sahf9E s

/-- `lahf`: 9f (R471). -/
def execLahf9F (s : State) : Result := oneByte 0x9F Ref.lahf9F s

/-- `cmc`: f5 (R472). -/
def execCmcF5 (s : State) : Result := oneByte 0xF5 Ref.cmcF5 s

/-- `clc`: f8 (R473). -/
def execClcF8 (s : State) : Result := oneByte 0xF8 Ref.clcF8 s

/-- `stc`: f9 (R474). -/
def execStcF9 (s : State) : Result := oneByte 0xF9 Ref.stcF9 s

/-- `cld`: fc (R475). -/
def execCldFC (s : State) : Result := oneByte 0xFC Ref.cldFC s

/-- `std`: fd (R476). -/
def execStdFD (s : State) : Result := oneByte 0xFD Ref.stdFD s

/-- `nop`: 0f 1f /r, operands EV (R466). -/
def execNop0F1F (s : State) : Result := twoByte 0x1F Ref.nop0F1F s

end Sys2Proof.Machine
end

