-- ==== Sys2Proof/Machine/Front.lean ====
section
/-! DEFINITION. The meanings of the rows of the bytes before a row of an operation: the prefixes, the escape, and the group-dispatch entries (40_decode_pipeline.md R165, R169, R171, R173 to R175). -/

namespace Sys2Proof.Machine

/-- `prefix.lock`: f0 (R165). -/
def execPrefixLock (s : State) : Result := prefixRow 0 s

/-- `prefix.repnz`: f2 (R165). -/
def execPrefixRepnz (s : State) : Result := prefixRow 1 s

/-- `prefix.repz`: f3 (R165). -/
def execPrefixRepz (s : State) : Result := prefixRow 2 s

/-- `prefix.es`: 26 (R165). -/
def execPrefixEs (s : State) : Result := prefixRow 3 s

/-- `prefix.cs`: 2e (R165). -/
def execPrefixCs (s : State) : Result := prefixRow 4 s

/-- `prefix.ss`: 36 (R165). -/
def execPrefixSs (s : State) : Result := prefixRow 5 s

/-- `prefix.ds`: 3e (R165). -/
def execPrefixDs (s : State) : Result := prefixRow 6 s

/-- `prefix.fs`: 64 (R165). -/
def execPrefixFs (s : State) : Result := prefixRow 7 s

/-- `prefix.gs`: 65 (R165). -/
def execPrefixGs (s : State) : Result := prefixRow 8 s

/-- `prefix.opsize`: 66 (R165). -/
def execPrefixOpsize (s : State) : Result := prefixRow 9 s

/-- `prefix.adsize`: 67 (R165). -/
def execPrefixAdsize (s : State) : Result := prefixRow 10 s

/-- `escape.0f`: 0f (R169, R171). -/
def execEscape0F (s : State) : Result := escapeRow (rowAt refT2) s

/-- `dispatch.group1`: 80 /r (R173 to R175). -/
def execDispatch80 (s : State) : Result := oneByteDispatch (rowAt refTG) 0x80 Ref.dispatch80 s

/-- `dispatch.group1`: 81 /r (R173 to R175). -/
def execDispatch81 (s : State) : Result := oneByteDispatch (rowAt refTG) 0x81 Ref.dispatch81 s

/-- `dispatch.group1`: 82 /r (R173 to R175). -/
def execDispatch82 (s : State) : Result := oneByteDispatch (rowAt refTG) 0x82 Ref.dispatch82 s

/-- `dispatch.group1`: 83 /r (R173 to R175). -/
def execDispatch83 (s : State) : Result := oneByteDispatch (rowAt refTG) 0x83 Ref.dispatch83 s

/-- `dispatch.group1a`: 8f /r (R173 to R175). -/
def execDispatch8F (s : State) : Result := oneByteDispatch (rowAt refTG) 0x8F Ref.dispatch8F s

/-- `dispatch.group2`: c0 /r (R173 to R175). -/
def execDispatchC0 (s : State) : Result := oneByteDispatch (rowAt refTG) 0xC0 Ref.dispatchC0 s

/-- `dispatch.group2`: c1 /r (R173 to R175). -/
def execDispatchC1 (s : State) : Result := oneByteDispatch (rowAt refTG) 0xC1 Ref.dispatchC1 s

/-- `dispatch.group11`: c6 /r (R173 to R175). -/
def execDispatchC6 (s : State) : Result := oneByteDispatch (rowAt refTG) 0xC6 Ref.dispatchC6 s

/-- `dispatch.group11`: c7 /r (R173 to R175). -/
def execDispatchC7 (s : State) : Result := oneByteDispatch (rowAt refTG) 0xC7 Ref.dispatchC7 s

/-- `dispatch.group2`: d0 /r (R173 to R175). -/
def execDispatchD0 (s : State) : Result := oneByteDispatch (rowAt refTG) 0xD0 Ref.dispatchD0 s

/-- `dispatch.group2`: d1 /r (R173 to R175). -/
def execDispatchD1 (s : State) : Result := oneByteDispatch (rowAt refTG) 0xD1 Ref.dispatchD1 s

/-- `dispatch.group2`: d2 /r (R173 to R175). -/
def execDispatchD2 (s : State) : Result := oneByteDispatch (rowAt refTG) 0xD2 Ref.dispatchD2 s

/-- `dispatch.group2`: d3 /r (R173 to R175). -/
def execDispatchD3 (s : State) : Result := oneByteDispatch (rowAt refTG) 0xD3 Ref.dispatchD3 s

/-- `dispatch.group3`: f6 /r (R173 to R175). -/
def execDispatchF6 (s : State) : Result := oneByteDispatch (rowAt refTG) 0xF6 Ref.dispatchF6 s

/-- `dispatch.group3`: f7 /r (R173 to R175). -/
def execDispatchF7 (s : State) : Result := oneByteDispatch (rowAt refTG) 0xF7 Ref.dispatchF7 s

/-- `dispatch.group4`: fe /r (R173 to R175). -/
def execDispatchFE (s : State) : Result := oneByteDispatch (rowAt refTG) 0xFE Ref.dispatchFE s

/-- `dispatch.group5`: ff /r (R173 to R175). -/
def execDispatchFF (s : State) : Result := oneByteDispatch (rowAt refTG) 0xFF Ref.dispatchFF s

/-- `dispatch.group6`: 0f 00 /r (R173 to R175). -/
def execDispatch0F00 (s : State) : Result := twoByteDispatch (rowAt refTG) 0x00 Ref.dispatch0F00 s

/-- `dispatch.group7`: 0f 01 /r (R173 to R175). -/
def execDispatch0F01 (s : State) : Result := twoByteDispatch (rowAt refTG) 0x01 Ref.dispatch0F01 s

/-- `dispatch.group8`: 0f ba /r (R173 to R175). -/
def execDispatch0FBA (s : State) : Result := twoByteDispatch (rowAt refTG) 0xBA Ref.dispatch0FBA s

/-- `dispatch.group9`: 0f c7 /r (R173 to R175). -/
def execDispatch0FC7 (s : State) : Result := twoByteDispatch (rowAt refTG) 0xC7 Ref.dispatch0FC7 s

end Sys2Proof.Machine
end

