-- ==== Sys2Proof/Machine/MoveStack.lean ====
section
/-! DEFINITION. The meanings of the rows of data movement and the stack (43_move_stack.md). A row's meaning is the DECODE transaction with
its descriptor (40_decode_pipeline.md R161): nothing is executed on an x86 register (00_scope.md R6). -/

namespace Sys2Proof.Machine

/-- `push`: 06, operands SEG2 (R359). -/
def execPush06 (s : State) : Result := oneByte 0x06 Ref.push06 s

/-- `push`: 0e, operands SEG2 (R359). -/
def execPush0E (s : State) : Result := oneByte 0x0E Ref.push0E s

/-- `push`: 16, operands SEG2 (R359). -/
def execPush16 (s : State) : Result := oneByte 0x16 Ref.push16 s

/-- `push`: 1e, operands SEG2 (R359). -/
def execPush1E (s : State) : Result := oneByte 0x1E Ref.push1E s

/-- `pop`: 07, operands SEG2 (R360). -/
def execPop07 (s : State) : Result := oneByte 0x07 Ref.pop07 s

/-- `pop`: 17, operands SEG2 (R360). -/
def execPop17 (s : State) : Result := oneByte 0x17 Ref.pop17 s

/-- `pop`: 1f, operands SEG2 (R360). -/
def execPop1F (s : State) : Result := oneByte 0x1F Ref.pop1F s

/-- `push`: 50+r, operands ZV (R359). -/
def execPush50 (s : State) : Result := oneByteReg 0x50 Ref.push50 s

/-- `pop`: 58+r, operands ZV (R360). -/
def execPop58 (s : State) : Result := oneByteReg 0x58 Ref.pop58 s

/-- `pusha`: 60 (R361). -/
def execPusha60 (s : State) : Result := oneByte 0x60 Ref.pusha60 s

/-- `popa`: 61 (R362). -/
def execPopa61 (s : State) : Result := oneByte 0x61 Ref.popa61 s

/-- `push`: 68 iv, operands IV (R359). -/
def execPush68 (s : State) : Result := oneByte 0x68 Ref.push68 s

/-- `push`: 6a ib(s), operands IBS (R359). -/
def execPush6A (s : State) : Result := oneByte 0x6A Ref.push6A s

/-- `xchg`: 86 /r, operands EB, GB (R363). -/
def execXchg86 (s : State) : Result := oneByte 0x86 Ref.xchg86 s

/-- `xchg`: 87 /r, operands EV, GV (R363). -/
def execXchg87 (s : State) : Result := oneByte 0x87 Ref.xchg87 s

/-- `mov`: 88 /r, operands EB, GB (R364). -/
def execMov88 (s : State) : Result := oneByte 0x88 Ref.mov88 s

/-- `mov`: 89 /r, operands EV, GV (R364). -/
def execMov89 (s : State) : Result := oneByte 0x89 Ref.mov89 s

/-- `mov`: 8a /r, operands GB, EB (R364). -/
def execMov8A (s : State) : Result := oneByte 0x8A Ref.mov8A s

/-- `mov`: 8b /r, operands GV, EV (R364). -/
def execMov8B (s : State) : Result := oneByte 0x8B Ref.mov8B s

/-- `mov`: 8c /r, operands EV, SW (R364). -/
def execMov8C (s : State) : Result := oneByte 0x8C Ref.mov8C s

/-- `lea`: 8d /r, operands GV, M (R365). -/
def execLea8D (s : State) : Result := oneByte 0x8D Ref.lea8D s

/-- `mov`: 8e /r, operands SW, EV (R364). -/
def execMov8E (s : State) : Result := oneByte 0x8E Ref.mov8E s

/-- `pop`: 8f /0, operands EV (R360). -/
def execPop8F_0 (s : State) : Result := oneByteMember 0x8F Ref.dispatch8F 0 Ref.pop8F_0 s

/-- `xchg`: 91+r (91..97), operands EAX, ZV (R363). -/
def execXchg91 (s : State) : Result := oneByteReg 0x90 Ref.xchg91 s

/-- `cwde`: 98 (R366). -/
def execCwde98 (s : State) : Result := oneByte 0x98 Ref.cwde98 s

/-- `cdq`: 99 (R367). -/
def execCdq99 (s : State) : Result := oneByte 0x99 Ref.cdq99 s

/-- `mov`: a0 mo(ad), operands AL, OV (R364). -/
def execMovA0 (s : State) : Result := oneByte 0xA0 Ref.movA0 s

/-- `mov`: a1 mo(ad), operands EAX, OV (R364). -/
def execMovA1 (s : State) : Result := oneByte 0xA1 Ref.movA1 s

/-- `mov`: a2 mo(ad), operands OV, AL (R364). -/
def execMovA2 (s : State) : Result := oneByte 0xA2 Ref.movA2 s

/-- `mov`: a3 mo(ad), operands OV, EAX (R364). -/
def execMovA3 (s : State) : Result := oneByte 0xA3 Ref.movA3 s

/-- `mov`: b0+r ib, operands ZB, IB (R364). -/
def execMovB0 (s : State) : Result := oneByteReg 0xB0 Ref.movB0 s

/-- `mov`: b8+r iv, operands ZV, IV (R364). -/
def execMovB8 (s : State) : Result := oneByteReg 0xB8 Ref.movB8 s

/-- `les`: c4 /r, operands GV, M (R368). -/
def execLesC4 (s : State) : Result := oneByte 0xC4 Ref.lesC4 s

/-- `lds`: c5 /r, operands GV, M (R369). -/
def execLdsC5 (s : State) : Result := oneByte 0xC5 Ref.ldsC5 s

/-- `mov`: c6 /0 ib, operands EB, IB (R364). -/
def execMovC6_0 (s : State) : Result := oneByteMember 0xC6 Ref.dispatchC6 0 Ref.movC6_0 s

/-- `mov`: c7 /0 iv, operands EV, IV (R364). -/
def execMovC7_0 (s : State) : Result := oneByteMember 0xC7 Ref.dispatchC7 0 Ref.movC7_0 s

/-- `leave`: c9 (R370). -/
def execLeaveC9 (s : State) : Result := oneByte 0xC9 Ref.leaveC9 s

/-- `xlat`: d7 (R371). -/
def execXlatD7 (s : State) : Result := oneByte 0xD7 Ref.xlatD7 s

/-- `push`: ff /6, operands EV (R359). -/
def execPushFF_6 (s : State) : Result := oneByteMember 0xFF Ref.dispatchFF 6 Ref.pushFF_6 s

/-- `cmovo`: 0f 40 /r, operands GV, EV (R372). -/
def execCmovo0F40 (s : State) : Result := twoByte 0x40 Ref.cmovo0F40 s

/-- `cmovno`: 0f 41 /r, operands GV, EV (R373). -/
def execCmovno0F41 (s : State) : Result := twoByte 0x41 Ref.cmovno0F41 s

/-- `cmovb`: 0f 42 /r, operands GV, EV (R374). -/
def execCmovb0F42 (s : State) : Result := twoByte 0x42 Ref.cmovb0F42 s

/-- `cmovae`: 0f 43 /r, operands GV, EV (R375). -/
def execCmovae0F43 (s : State) : Result := twoByte 0x43 Ref.cmovae0F43 s

/-- `cmove`: 0f 44 /r, operands GV, EV (R376). -/
def execCmove0F44 (s : State) : Result := twoByte 0x44 Ref.cmove0F44 s

/-- `cmovne`: 0f 45 /r, operands GV, EV (R377). -/
def execCmovne0F45 (s : State) : Result := twoByte 0x45 Ref.cmovne0F45 s

/-- `cmovbe`: 0f 46 /r, operands GV, EV (R378). -/
def execCmovbe0F46 (s : State) : Result := twoByte 0x46 Ref.cmovbe0F46 s

/-- `cmova`: 0f 47 /r, operands GV, EV (R379). -/
def execCmova0F47 (s : State) : Result := twoByte 0x47 Ref.cmova0F47 s

/-- `cmovs`: 0f 48 /r, operands GV, EV (R380). -/
def execCmovs0F48 (s : State) : Result := twoByte 0x48 Ref.cmovs0F48 s

/-- `cmovns`: 0f 49 /r, operands GV, EV (R381). -/
def execCmovns0F49 (s : State) : Result := twoByte 0x49 Ref.cmovns0F49 s

/-- `cmovp`: 0f 4a /r, operands GV, EV (R382). -/
def execCmovp0F4A (s : State) : Result := twoByte 0x4A Ref.cmovp0F4A s

/-- `cmovnp`: 0f 4b /r, operands GV, EV (R383). -/
def execCmovnp0F4B (s : State) : Result := twoByte 0x4B Ref.cmovnp0F4B s

/-- `cmovl`: 0f 4c /r, operands GV, EV (R384). -/
def execCmovl0F4C (s : State) : Result := twoByte 0x4C Ref.cmovl0F4C s

/-- `cmovge`: 0f 4d /r, operands GV, EV (R385). -/
def execCmovge0F4D (s : State) : Result := twoByte 0x4D Ref.cmovge0F4D s

/-- `cmovle`: 0f 4e /r, operands GV, EV (R386). -/
def execCmovle0F4E (s : State) : Result := twoByte 0x4E Ref.cmovle0F4E s

/-- `cmovg`: 0f 4f /r, operands GV, EV (R387). -/
def execCmovg0F4F (s : State) : Result := twoByte 0x4F Ref.cmovg0F4F s

/-- `push`: 0f a0, operands FS (R359). -/
def execPush0FA0 (s : State) : Result := twoByte 0xA0 Ref.push0FA0 s

/-- `pop`: 0f a1, operands FS (R360). -/
def execPop0FA1 (s : State) : Result := twoByte 0xA1 Ref.pop0FA1 s

/-- `push`: 0f a8, operands GS (R359). -/
def execPush0FA8 (s : State) : Result := twoByte 0xA8 Ref.push0FA8 s

/-- `pop`: 0f a9, operands GS (R360). -/
def execPop0FA9 (s : State) : Result := twoByte 0xA9 Ref.pop0FA9 s

/-- `lss`: 0f b2 /r, operands GV, M (R388). -/
def execLss0FB2 (s : State) : Result := twoByte 0xB2 Ref.lss0FB2 s

/-- `lfs`: 0f b4 /r, operands GV, M (R389). -/
def execLfs0FB4 (s : State) : Result := twoByte 0xB4 Ref.lfs0FB4 s

/-- `lgs`: 0f b5 /r, operands GV, M (R390). -/
def execLgs0FB5 (s : State) : Result := twoByte 0xB5 Ref.lgs0FB5 s

/-- `movzx`: 0f b6 /r, operands GV, EB (R391). -/
def execMovzx0FB6 (s : State) : Result := twoByte 0xB6 Ref.movzx0FB6 s

/-- `movzx`: 0f b7 /r, operands GV, EW (R391). -/
def execMovzx0FB7 (s : State) : Result := twoByte 0xB7 Ref.movzx0FB7 s

/-- `movsx`: 0f be /r, operands GV, EB (R392). -/
def execMovsx0FBE (s : State) : Result := twoByte 0xBE Ref.movsx0FBE s

/-- `movsx`: 0f bf /r, operands GV, EW (R392). -/
def execMovsx0FBF (s : State) : Result := twoByte 0xBF Ref.movsx0FBF s

/-- `xchg`: 66 90 (prefix 66 required), operands EAX, ZV (R363). -/
def execXchg66_90 (s : State) : Result := hardCoded 0x90 Ref.xchg66_90 s

end Sys2Proof.Machine
end

