-- ==== Sys2Proof/Machine/ShiftBit.lean ====
section
/-! DEFINITION. The meanings of the rows of shifts, rotates, bit and byte-set instructions (42_shift_bit.md). A row's meaning is the DECODE transaction with
its descriptor (40_decode_pipeline.md R161): nothing is executed on an x86 register (00_scope.md R6). -/

namespace Sys2Proof.Machine

/-- `rol`: c0 /0 ib, operands EB, IB (R327). -/
def execRolC0_0 (s : State) : Result := oneByteMember 0xC0 Ref.dispatchC0 0 Ref.rolC0_0 s

/-- `ror`: c0 /1 ib, operands EB, IB (R328). -/
def execRorC0_1 (s : State) : Result := oneByteMember 0xC0 Ref.dispatchC0 1 Ref.rorC0_1 s

/-- `rcl`: c0 /2 ib, operands EB, IB (R329). -/
def execRclC0_2 (s : State) : Result := oneByteMember 0xC0 Ref.dispatchC0 2 Ref.rclC0_2 s

/-- `rcr`: c0 /3 ib, operands EB, IB (R330). -/
def execRcrC0_3 (s : State) : Result := oneByteMember 0xC0 Ref.dispatchC0 3 Ref.rcrC0_3 s

/-- `shl`: c0 /4 ib, operands EB, IB (R331). -/
def execShlC0_4 (s : State) : Result := oneByteMember 0xC0 Ref.dispatchC0 4 Ref.shlC0_4 s

/-- `shr`: c0 /5 ib, operands EB, IB (R332). -/
def execShrC0_5 (s : State) : Result := oneByteMember 0xC0 Ref.dispatchC0 5 Ref.shrC0_5 s

/-- `sar`: c0 /7 ib, operands EB, IB (R333). -/
def execSarC0_7 (s : State) : Result := oneByteMember 0xC0 Ref.dispatchC0 7 Ref.sarC0_7 s

/-- `rol`: c1 /0 ib, operands EV, IB (R327). -/
def execRolC1_0 (s : State) : Result := oneByteMember 0xC1 Ref.dispatchC1 0 Ref.rolC1_0 s

/-- `ror`: c1 /1 ib, operands EV, IB (R328). -/
def execRorC1_1 (s : State) : Result := oneByteMember 0xC1 Ref.dispatchC1 1 Ref.rorC1_1 s

/-- `rcl`: c1 /2 ib, operands EV, IB (R329). -/
def execRclC1_2 (s : State) : Result := oneByteMember 0xC1 Ref.dispatchC1 2 Ref.rclC1_2 s

/-- `rcr`: c1 /3 ib, operands EV, IB (R330). -/
def execRcrC1_3 (s : State) : Result := oneByteMember 0xC1 Ref.dispatchC1 3 Ref.rcrC1_3 s

/-- `shl`: c1 /4 ib, operands EV, IB (R331). -/
def execShlC1_4 (s : State) : Result := oneByteMember 0xC1 Ref.dispatchC1 4 Ref.shlC1_4 s

/-- `shr`: c1 /5 ib, operands EV, IB (R332). -/
def execShrC1_5 (s : State) : Result := oneByteMember 0xC1 Ref.dispatchC1 5 Ref.shrC1_5 s

/-- `sar`: c1 /7 ib, operands EV, IB (R333). -/
def execSarC1_7 (s : State) : Result := oneByteMember 0xC1 Ref.dispatchC1 7 Ref.sarC1_7 s

/-- `rol`: d0 /0, operands EB (R327). -/
def execRolD0_0 (s : State) : Result := oneByteMember 0xD0 Ref.dispatchD0 0 Ref.rolD0_0 s

/-- `ror`: d0 /1, operands EB (R328). -/
def execRorD0_1 (s : State) : Result := oneByteMember 0xD0 Ref.dispatchD0 1 Ref.rorD0_1 s

/-- `rcl`: d0 /2, operands EB (R329). -/
def execRclD0_2 (s : State) : Result := oneByteMember 0xD0 Ref.dispatchD0 2 Ref.rclD0_2 s

/-- `rcr`: d0 /3, operands EB (R330). -/
def execRcrD0_3 (s : State) : Result := oneByteMember 0xD0 Ref.dispatchD0 3 Ref.rcrD0_3 s

/-- `shl`: d0 /4, operands EB (R331). -/
def execShlD0_4 (s : State) : Result := oneByteMember 0xD0 Ref.dispatchD0 4 Ref.shlD0_4 s

/-- `shr`: d0 /5, operands EB (R332). -/
def execShrD0_5 (s : State) : Result := oneByteMember 0xD0 Ref.dispatchD0 5 Ref.shrD0_5 s

/-- `sar`: d0 /7, operands EB (R333). -/
def execSarD0_7 (s : State) : Result := oneByteMember 0xD0 Ref.dispatchD0 7 Ref.sarD0_7 s

/-- `rol`: d1 /0, operands EV (R327). -/
def execRolD1_0 (s : State) : Result := oneByteMember 0xD1 Ref.dispatchD1 0 Ref.rolD1_0 s

/-- `ror`: d1 /1, operands EV (R328). -/
def execRorD1_1 (s : State) : Result := oneByteMember 0xD1 Ref.dispatchD1 1 Ref.rorD1_1 s

/-- `rcl`: d1 /2, operands EV (R329). -/
def execRclD1_2 (s : State) : Result := oneByteMember 0xD1 Ref.dispatchD1 2 Ref.rclD1_2 s

/-- `rcr`: d1 /3, operands EV (R330). -/
def execRcrD1_3 (s : State) : Result := oneByteMember 0xD1 Ref.dispatchD1 3 Ref.rcrD1_3 s

/-- `shl`: d1 /4, operands EV (R331). -/
def execShlD1_4 (s : State) : Result := oneByteMember 0xD1 Ref.dispatchD1 4 Ref.shlD1_4 s

/-- `shr`: d1 /5, operands EV (R332). -/
def execShrD1_5 (s : State) : Result := oneByteMember 0xD1 Ref.dispatchD1 5 Ref.shrD1_5 s

/-- `sar`: d1 /7, operands EV (R333). -/
def execSarD1_7 (s : State) : Result := oneByteMember 0xD1 Ref.dispatchD1 7 Ref.sarD1_7 s

/-- `rol`: d2 /0, operands EB, CL (R327). -/
def execRolD2_0 (s : State) : Result := oneByteMember 0xD2 Ref.dispatchD2 0 Ref.rolD2_0 s

/-- `ror`: d2 /1, operands EB, CL (R328). -/
def execRorD2_1 (s : State) : Result := oneByteMember 0xD2 Ref.dispatchD2 1 Ref.rorD2_1 s

/-- `rcl`: d2 /2, operands EB, CL (R329). -/
def execRclD2_2 (s : State) : Result := oneByteMember 0xD2 Ref.dispatchD2 2 Ref.rclD2_2 s

/-- `rcr`: d2 /3, operands EB, CL (R330). -/
def execRcrD2_3 (s : State) : Result := oneByteMember 0xD2 Ref.dispatchD2 3 Ref.rcrD2_3 s

/-- `shl`: d2 /4, operands EB, CL (R331). -/
def execShlD2_4 (s : State) : Result := oneByteMember 0xD2 Ref.dispatchD2 4 Ref.shlD2_4 s

/-- `shr`: d2 /5, operands EB, CL (R332). -/
def execShrD2_5 (s : State) : Result := oneByteMember 0xD2 Ref.dispatchD2 5 Ref.shrD2_5 s

/-- `sar`: d2 /7, operands EB, CL (R333). -/
def execSarD2_7 (s : State) : Result := oneByteMember 0xD2 Ref.dispatchD2 7 Ref.sarD2_7 s

/-- `rol`: d3 /0, operands EV, CL (R327). -/
def execRolD3_0 (s : State) : Result := oneByteMember 0xD3 Ref.dispatchD3 0 Ref.rolD3_0 s

/-- `ror`: d3 /1, operands EV, CL (R328). -/
def execRorD3_1 (s : State) : Result := oneByteMember 0xD3 Ref.dispatchD3 1 Ref.rorD3_1 s

/-- `rcl`: d3 /2, operands EV, CL (R329). -/
def execRclD3_2 (s : State) : Result := oneByteMember 0xD3 Ref.dispatchD3 2 Ref.rclD3_2 s

/-- `rcr`: d3 /3, operands EV, CL (R330). -/
def execRcrD3_3 (s : State) : Result := oneByteMember 0xD3 Ref.dispatchD3 3 Ref.rcrD3_3 s

/-- `shl`: d3 /4, operands EV, CL (R331). -/
def execShlD3_4 (s : State) : Result := oneByteMember 0xD3 Ref.dispatchD3 4 Ref.shlD3_4 s

/-- `shr`: d3 /5, operands EV, CL (R332). -/
def execShrD3_5 (s : State) : Result := oneByteMember 0xD3 Ref.dispatchD3 5 Ref.shrD3_5 s

/-- `sar`: d3 /7, operands EV, CL (R333). -/
def execSarD3_7 (s : State) : Result := oneByteMember 0xD3 Ref.dispatchD3 7 Ref.sarD3_7 s

/-- `seto`: 0f 90 /r, operands EB (R334). -/
def execSeto0F90 (s : State) : Result := twoByte 0x90 Ref.seto0F90 s

/-- `setno`: 0f 91 /r, operands EB (R335). -/
def execSetno0F91 (s : State) : Result := twoByte 0x91 Ref.setno0F91 s

/-- `setb`: 0f 92 /r, operands EB (R336). -/
def execSetb0F92 (s : State) : Result := twoByte 0x92 Ref.setb0F92 s

/-- `setae`: 0f 93 /r, operands EB (R337). -/
def execSetae0F93 (s : State) : Result := twoByte 0x93 Ref.setae0F93 s

/-- `sete`: 0f 94 /r, operands EB (R338). -/
def execSete0F94 (s : State) : Result := twoByte 0x94 Ref.sete0F94 s

/-- `setne`: 0f 95 /r, operands EB (R339). -/
def execSetne0F95 (s : State) : Result := twoByte 0x95 Ref.setne0F95 s

/-- `setbe`: 0f 96 /r, operands EB (R340). -/
def execSetbe0F96 (s : State) : Result := twoByte 0x96 Ref.setbe0F96 s

/-- `seta`: 0f 97 /r, operands EB (R341). -/
def execSeta0F97 (s : State) : Result := twoByte 0x97 Ref.seta0F97 s

/-- `sets`: 0f 98 /r, operands EB (R342). -/
def execSets0F98 (s : State) : Result := twoByte 0x98 Ref.sets0F98 s

/-- `setns`: 0f 99 /r, operands EB (R343). -/
def execSetns0F99 (s : State) : Result := twoByte 0x99 Ref.setns0F99 s

/-- `setp`: 0f 9a /r, operands EB (R344). -/
def execSetp0F9A (s : State) : Result := twoByte 0x9A Ref.setp0F9A s

/-- `setnp`: 0f 9b /r, operands EB (R345). -/
def execSetnp0F9B (s : State) : Result := twoByte 0x9B Ref.setnp0F9B s

/-- `setl`: 0f 9c /r, operands EB (R346). -/
def execSetl0F9C (s : State) : Result := twoByte 0x9C Ref.setl0F9C s

/-- `setge`: 0f 9d /r, operands EB (R347). -/
def execSetge0F9D (s : State) : Result := twoByte 0x9D Ref.setge0F9D s

/-- `setle`: 0f 9e /r, operands EB (R348). -/
def execSetle0F9E (s : State) : Result := twoByte 0x9E Ref.setle0F9E s

/-- `setg`: 0f 9f /r, operands EB (R349). -/
def execSetg0F9F (s : State) : Result := twoByte 0x9F Ref.setg0F9F s

/-- `bt`: 0f a3 /r, operands EV, GV (R350). -/
def execBt0FA3 (s : State) : Result := twoByte 0xA3 Ref.bt0FA3 s

/-- `shld`: 0f a4 /r ib, operands EV, GV, IB (R351). -/
def execShld0FA4 (s : State) : Result := twoByte 0xA4 Ref.shld0FA4 s

/-- `bts`: 0f ab /r, operands EV, GV (R352). -/
def execBts0FAB (s : State) : Result := twoByte 0xAB Ref.bts0FAB s

/-- `shrd`: 0f ac /r ib, operands EV, GV, IB (R353). -/
def execShrd0FAC (s : State) : Result := twoByte 0xAC Ref.shrd0FAC s

/-- `btr`: 0f b3 /r, operands EV, GV (R354). -/
def execBtr0FB3 (s : State) : Result := twoByte 0xB3 Ref.btr0FB3 s

/-- `bt`: 0f ba /4 ib, operands EV, IB (R350). -/
def execBt0FBA_4 (s : State) : Result := twoByteMember 0xBA Ref.dispatch0FBA 4 Ref.bt0FBA_4 s

/-- `bts`: 0f ba /5 ib, operands EV, IB (R352). -/
def execBts0FBA_5 (s : State) : Result := twoByteMember 0xBA Ref.dispatch0FBA 5 Ref.bts0FBA_5 s

/-- `btr`: 0f ba /6 ib, operands EV, IB (R354). -/
def execBtr0FBA_6 (s : State) : Result := twoByteMember 0xBA Ref.dispatch0FBA 6 Ref.btr0FBA_6 s

/-- `btc`: 0f ba /7 ib, operands EV, IB (R355). -/
def execBtc0FBA_7 (s : State) : Result := twoByteMember 0xBA Ref.dispatch0FBA 7 Ref.btc0FBA_7 s

/-- `btc`: 0f bb /r, operands EV, GV (R355). -/
def execBtc0FBB (s : State) : Result := twoByte 0xBB Ref.btc0FBB s

/-- `bsf`: 0f bc /r, operands GV, EV (R356). -/
def execBsf0FBC (s : State) : Result := twoByte 0xBC Ref.bsf0FBC s

/-- `bsr`: 0f bd /r, operands GV, EV (R357). -/
def execBsr0FBD (s : State) : Result := twoByte 0xBD Ref.bsr0FBD s

/-- `bswap`: 0f c8+r, operands ZD (R358). -/
def execBswap0FC8 (s : State) : Result := twoByteReg 0xC8 Ref.bswap0FC8 s

end Sys2Proof.Machine
end

