-- ==== Sys2Proof/Machine/StringIo.lean ====
section
/-! DEFINITION. The meanings of the rows of string and I/O instructions (45_string_io.md). A row's meaning is the DECODE transaction with
its descriptor (40_decode_pipeline.md R161): nothing is executed on an x86 register (00_scope.md R6). -/

namespace Sys2Proof.Machine

/-- `ins`: 6c, operands YB, DX (R423). -/
def execIns6C (s : State) : Result := oneByte 0x6C Ref.ins6C s

/-- `ins`: 6d, operands YV, DX (R423). -/
def execIns6D (s : State) : Result := oneByte 0x6D Ref.ins6D s

/-- `outs`: 6e, operands DX, XB (R424). -/
def execOuts6E (s : State) : Result := oneByte 0x6E Ref.outs6E s

/-- `outs`: 6f, operands DX, XV (R424). -/
def execOuts6F (s : State) : Result := oneByte 0x6F Ref.outs6F s

/-- `movs`: a4, operands YB, XB (R425). -/
def execMovsA4 (s : State) : Result := oneByte 0xA4 Ref.movsA4 s

/-- `movs`: a5, operands YV, XV (R425). -/
def execMovsA5 (s : State) : Result := oneByte 0xA5 Ref.movsA5 s

/-- `cmps`: a6, operands XB, YB (R426). -/
def execCmpsA6 (s : State) : Result := oneByte 0xA6 Ref.cmpsA6 s

/-- `cmps`: a7, operands XV, YV (R426). -/
def execCmpsA7 (s : State) : Result := oneByte 0xA7 Ref.cmpsA7 s

/-- `stos`: aa, operands YB, AL (R427). -/
def execStosAA (s : State) : Result := oneByte 0xAA Ref.stosAA s

/-- `stos`: ab, operands YV, EAX (R427). -/
def execStosAB (s : State) : Result := oneByte 0xAB Ref.stosAB s

/-- `lods`: ac, operands AL, XB (R428). -/
def execLodsAC (s : State) : Result := oneByte 0xAC Ref.lodsAC s

/-- `lods`: ad, operands EAX, XV (R428). -/
def execLodsAD (s : State) : Result := oneByte 0xAD Ref.lodsAD s

/-- `scas`: ae, operands AL, YB (R429). -/
def execScasAE (s : State) : Result := oneByte 0xAE Ref.scasAE s

/-- `scas`: af, operands EAX, YV (R429). -/
def execScasAF (s : State) : Result := oneByte 0xAF Ref.scasAF s

/-- `in`: e4 ib, operands AL, IB (R430). -/
def execInE4 (s : State) : Result := oneByte 0xE4 Ref.inE4 s

/-- `in`: e5 ib, operands EAX, IB (R430). -/
def execInE5 (s : State) : Result := oneByte 0xE5 Ref.inE5 s

/-- `out`: e6 ib, operands IB, AL (R431). -/
def execOutE6 (s : State) : Result := oneByte 0xE6 Ref.outE6 s

/-- `out`: e7 ib, operands IB, EAX (R431). -/
def execOutE7 (s : State) : Result := oneByte 0xE7 Ref.outE7 s

/-- `in`: ec, operands AL, DX (R430). -/
def execInEC (s : State) : Result := oneByte 0xEC Ref.inEC s

/-- `in`: ed, operands EAX, DX (R430). -/
def execInED (s : State) : Result := oneByte 0xED Ref.inED s

/-- `out`: ee, operands DX, AL (R431). -/
def execOutEE (s : State) : Result := oneByte 0xEE Ref.outEE s

/-- `out`: ef, operands DX, EAX (R431). -/
def execOutEF (s : State) : Result := oneByte 0xEF Ref.outEF s

end Sys2Proof.Machine
end

