-- ==== Sys2Proof/Machine/System.lean ====
section
/-! DEFINITION. The meanings of the rows of system instructions (46_system.md). A row's meaning is the DECODE transaction with
its descriptor (40_decode_pipeline.md R161): nothing is executed on an x86 register (00_scope.md R6). -/

namespace Sys2Proof.Machine

/-- `bound`: 62 /r, operands GV, M (R432). -/
def execBound62 (s : State) : Result := oneByte 0x62 Ref.bound62 s

/-- `arpl`: 63 /r, operands EW, GW (R433). -/
def execArpl63 (s : State) : Result := oneByte 0x63 Ref.arpl63 s

/-- `hlt`: f4 (R434). -/
def execHltF4 (s : State) : Result := oneByte 0xF4 Ref.hltF4 s

/-- `cli`: fa (R435). -/
def execCliFA (s : State) : Result := oneByte 0xFA Ref.cliFA s

/-- `sti`: fb (R436). -/
def execStiFB (s : State) : Result := oneByte 0xFB Ref.stiFB s

/-- `sldt`: 0f 00 /0, operands EW (R437). -/
def execSldt0F00_0 (s : State) : Result := twoByteMember 0x00 Ref.dispatch0F00 0 Ref.sldt0F00_0 s

/-- `str`: 0f 00 /1, operands EW (R438). -/
def execStr0F00_1 (s : State) : Result := twoByteMember 0x00 Ref.dispatch0F00 1 Ref.str0F00_1 s

/-- `lldt`: 0f 00 /2, operands EW (R439). -/
def execLldt0F00_2 (s : State) : Result := twoByteMember 0x00 Ref.dispatch0F00 2 Ref.lldt0F00_2 s

/-- `ltr`: 0f 00 /3, operands EW (R440). -/
def execLtr0F00_3 (s : State) : Result := twoByteMember 0x00 Ref.dispatch0F00 3 Ref.ltr0F00_3 s

/-- `verr`: 0f 00 /4, operands EW (R441). -/
def execVerr0F00_4 (s : State) : Result := twoByteMember 0x00 Ref.dispatch0F00 4 Ref.verr0F00_4 s

/-- `verw`: 0f 00 /5, operands EW (R442). -/
def execVerw0F00_5 (s : State) : Result := twoByteMember 0x00 Ref.dispatch0F00 5 Ref.verw0F00_5 s

/-- `sgdt`: 0f 01 /0, operands M (R443). -/
def execSgdt0F01_0 (s : State) : Result := twoByteMember 0x01 Ref.dispatch0F01 0 Ref.sgdt0F01_0 s

/-- `sidt`: 0f 01 /1, operands M (R444). -/
def execSidt0F01_1 (s : State) : Result := twoByteMember 0x01 Ref.dispatch0F01 1 Ref.sidt0F01_1 s

/-- `lgdt`: 0f 01 /2, operands M (R445). -/
def execLgdt0F01_2 (s : State) : Result := twoByteMember 0x01 Ref.dispatch0F01 2 Ref.lgdt0F01_2 s

/-- `lidt`: 0f 01 /3, operands M (R446). -/
def execLidt0F01_3 (s : State) : Result := twoByteMember 0x01 Ref.dispatch0F01 3 Ref.lidt0F01_3 s

/-- `smsw`: 0f 01 /4, operands EW (R447). -/
def execSmsw0F01_4 (s : State) : Result := twoByteMember 0x01 Ref.dispatch0F01 4 Ref.smsw0F01_4 s

/-- `lmsw`: 0f 01 /6, operands EW (R448). -/
def execLmsw0F01_6 (s : State) : Result := twoByteMember 0x01 Ref.dispatch0F01 6 Ref.lmsw0F01_6 s

/-- `invlpg`: 0f 01 /7, operands M (R449). -/
def execInvlpg0F01_7 (s : State) : Result := twoByteMember 0x01 Ref.dispatch0F01 7 Ref.invlpg0F01_7 s

/-- `lar`: 0f 02 /r, operands GV, EW (R450). -/
def execLar0F02 (s : State) : Result := twoByte 0x02 Ref.lar0F02 s

/-- `lsl`: 0f 03 /r, operands GV, EW (R451). -/
def execLsl0F03 (s : State) : Result := twoByte 0x03 Ref.lsl0F03 s

/-- `clts`: 0f 06 (R452). -/
def execClts0F06 (s : State) : Result := twoByte 0x06 Ref.clts0F06 s

/-- `invd`: 0f 08 (R453). -/
def execInvd0F08 (s : State) : Result := twoByte 0x08 Ref.invd0F08 s

/-- `wbinvd`: 0f 09 (R454). -/
def execWbinvd0F09 (s : State) : Result := twoByte 0x09 Ref.wbinvd0F09 s

/-- `ud2`: 0f 0b (R455). -/
def execUd20F0B (s : State) : Result := twoByte 0x0B Ref.ud20F0B s

/-- `mov_cr`: 0f 20 /r, operands RD, CR (R456). -/
def execMovCr0F20 (s : State) : Result := twoByte 0x20 Ref.movCr0F20 s

/-- `mov_dr`: 0f 21 /r, operands RD, DR (R457). -/
def execMovDr0F21 (s : State) : Result := twoByte 0x21 Ref.movDr0F21 s

/-- `mov_cr`: 0f 22 /r, operands CR, RD (R456). -/
def execMovCr0F22 (s : State) : Result := twoByte 0x22 Ref.movCr0F22 s

/-- `mov_dr`: 0f 23 /r, operands DR, RD (R457). -/
def execMovDr0F23 (s : State) : Result := twoByte 0x23 Ref.movDr0F23 s

/-- `wrmsr`: 0f 30 (R458). -/
def execWrmsr0F30 (s : State) : Result := twoByte 0x30 Ref.wrmsr0F30 s

/-- `rdtsc`: 0f 31 (R459). -/
def execRdtsc0F31 (s : State) : Result := twoByte 0x31 Ref.rdtsc0F31 s

/-- `rdmsr`: 0f 32 (R460). -/
def execRdmsr0F32 (s : State) : Result := twoByte 0x32 Ref.rdmsr0F32 s

/-- `rdpmc`: 0f 33 (R461). -/
def execRdpmc0F33 (s : State) : Result := twoByte 0x33 Ref.rdpmc0F33 s

/-- `sysenter`: 0f 34 (R462). -/
def execSysenter0F34 (s : State) : Result := twoByte 0x34 Ref.sysenter0F34 s

/-- `sysexit`: 0f 35 (R463). -/
def execSysexit0F35 (s : State) : Result := twoByte 0x35 Ref.sysexit0F35 s

/-- `cpuid`: 0f a2 (R464). -/
def execCpuid0FA2 (s : State) : Result := twoByte 0xA2 Ref.cpuid0FA2 s

/-- `rsm`: 0f aa (R465). -/
def execRsm0FAA (s : State) : Result := twoByte 0xAA Ref.rsm0FAA s

end Sys2Proof.Machine
end

