-- ==== Sys2Proof/Machine/Dispatch.lean ====
section
/-! DEFINITION. The dispatch: one arm per row of the opcode table. -/

namespace Sys2Proof.Machine

def exec (i : Instr) (s : State) : Host.Outcome State Fault Refusal :=
  match i with
  | .prefixLock => Sys2Proof.Machine.execPrefixLock s
  | .prefixRepnz => Sys2Proof.Machine.execPrefixRepnz s
  | .prefixRepz => Sys2Proof.Machine.execPrefixRepz s
  | .prefixEs => Sys2Proof.Machine.execPrefixEs s
  | .prefixCs => Sys2Proof.Machine.execPrefixCs s
  | .prefixSs => Sys2Proof.Machine.execPrefixSs s
  | .prefixDs => Sys2Proof.Machine.execPrefixDs s
  | .prefixFs => Sys2Proof.Machine.execPrefixFs s
  | .prefixGs => Sys2Proof.Machine.execPrefixGs s
  | .prefixOpsize => Sys2Proof.Machine.execPrefixOpsize s
  | .prefixAdsize => Sys2Proof.Machine.execPrefixAdsize s
  | .escape0F => Sys2Proof.Machine.execEscape0F s
  | .add00 => Sys2Proof.Machine.execAdd00 s
  | .add01 => Sys2Proof.Machine.execAdd01 s
  | .add02 => Sys2Proof.Machine.execAdd02 s
  | .add03 => Sys2Proof.Machine.execAdd03 s
  | .add04 => Sys2Proof.Machine.execAdd04 s
  | .add05 => Sys2Proof.Machine.execAdd05 s
  | .or08 => Sys2Proof.Machine.execOr08 s
  | .or09 => Sys2Proof.Machine.execOr09 s
  | .or0A => Sys2Proof.Machine.execOr0A s
  | .or0B => Sys2Proof.Machine.execOr0B s
  | .or0C => Sys2Proof.Machine.execOr0C s
  | .or0D => Sys2Proof.Machine.execOr0D s
  | .adc10 => Sys2Proof.Machine.execAdc10 s
  | .adc11 => Sys2Proof.Machine.execAdc11 s
  | .adc12 => Sys2Proof.Machine.execAdc12 s
  | .adc13 => Sys2Proof.Machine.execAdc13 s
  | .adc14 => Sys2Proof.Machine.execAdc14 s
  | .adc15 => Sys2Proof.Machine.execAdc15 s
  | .sbb18 => Sys2Proof.Machine.execSbb18 s
  | .sbb19 => Sys2Proof.Machine.execSbb19 s
  | .sbb1A => Sys2Proof.Machine.execSbb1A s
  | .sbb1B => Sys2Proof.Machine.execSbb1B s
  | .sbb1C => Sys2Proof.Machine.execSbb1C s
  | .sbb1D => Sys2Proof.Machine.execSbb1D s
  | .and20 => Sys2Proof.Machine.execAnd20 s
  | .and21 => Sys2Proof.Machine.execAnd21 s
  | .and22 => Sys2Proof.Machine.execAnd22 s
  | .and23 => Sys2Proof.Machine.execAnd23 s
  | .and24 => Sys2Proof.Machine.execAnd24 s
  | .and25 => Sys2Proof.Machine.execAnd25 s
  | .sub28 => Sys2Proof.Machine.execSub28 s
  | .sub29 => Sys2Proof.Machine.execSub29 s
  | .sub2A => Sys2Proof.Machine.execSub2A s
  | .sub2B => Sys2Proof.Machine.execSub2B s
  | .sub2C => Sys2Proof.Machine.execSub2C s
  | .sub2D => Sys2Proof.Machine.execSub2D s
  | .xor30 => Sys2Proof.Machine.execXor30 s
  | .xor31 => Sys2Proof.Machine.execXor31 s
  | .xor32 => Sys2Proof.Machine.execXor32 s
  | .xor33 => Sys2Proof.Machine.execXor33 s
  | .xor34 => Sys2Proof.Machine.execXor34 s
  | .xor35 => Sys2Proof.Machine.execXor35 s
  | .cmp38 => Sys2Proof.Machine.execCmp38 s
  | .cmp39 => Sys2Proof.Machine.execCmp39 s
  | .cmp3A => Sys2Proof.Machine.execCmp3A s
  | .cmp3B => Sys2Proof.Machine.execCmp3B s
  | .cmp3C => Sys2Proof.Machine.execCmp3C s
  | .cmp3D => Sys2Proof.Machine.execCmp3D s
  | .push06 => Sys2Proof.Machine.execPush06 s
  | .push0E => Sys2Proof.Machine.execPush0E s
  | .push16 => Sys2Proof.Machine.execPush16 s
  | .push1E => Sys2Proof.Machine.execPush1E s
  | .pop07 => Sys2Proof.Machine.execPop07 s
  | .pop17 => Sys2Proof.Machine.execPop17 s
  | .pop1F => Sys2Proof.Machine.execPop1F s
  | .daa27 => Sys2Proof.Machine.execDaa27 s
  | .das2F => Sys2Proof.Machine.execDas2F s
  | .aaa37 => Sys2Proof.Machine.execAaa37 s
  | .aas3F => Sys2Proof.Machine.execAas3F s
  | .inc40 => Sys2Proof.Machine.execInc40 s
  | .dec48 => Sys2Proof.Machine.execDec48 s
  | .push50 => Sys2Proof.Machine.execPush50 s
  | .pop58 => Sys2Proof.Machine.execPop58 s
  | .pusha60 => Sys2Proof.Machine.execPusha60 s
  | .popa61 => Sys2Proof.Machine.execPopa61 s
  | .bound62 => Sys2Proof.Machine.execBound62 s
  | .arpl63 => Sys2Proof.Machine.execArpl63 s
  | .push68 => Sys2Proof.Machine.execPush68 s
  | .imul69 => Sys2Proof.Machine.execImul69 s
  | .push6A => Sys2Proof.Machine.execPush6A s
  | .imul6B => Sys2Proof.Machine.execImul6B s
  | .ins6C => Sys2Proof.Machine.execIns6C s
  | .ins6D => Sys2Proof.Machine.execIns6D s
  | .outs6E => Sys2Proof.Machine.execOuts6E s
  | .outs6F => Sys2Proof.Machine.execOuts6F s
  | .jo70 => Sys2Proof.Machine.execJo70 s
  | .jno71 => Sys2Proof.Machine.execJno71 s
  | .jb72 => Sys2Proof.Machine.execJb72 s
  | .jae73 => Sys2Proof.Machine.execJae73 s
  | .je74 => Sys2Proof.Machine.execJe74 s
  | .jne75 => Sys2Proof.Machine.execJne75 s
  | .jbe76 => Sys2Proof.Machine.execJbe76 s
  | .ja77 => Sys2Proof.Machine.execJa77 s
  | .js78 => Sys2Proof.Machine.execJs78 s
  | .jns79 => Sys2Proof.Machine.execJns79 s
  | .jp7A => Sys2Proof.Machine.execJp7A s
  | .jnp7B => Sys2Proof.Machine.execJnp7B s
  | .jl7C => Sys2Proof.Machine.execJl7C s
  | .jge7D => Sys2Proof.Machine.execJge7D s
  | .jle7E => Sys2Proof.Machine.execJle7E s
  | .jg7F => Sys2Proof.Machine.execJg7F s
  | .dispatch80 => Sys2Proof.Machine.execDispatch80 s
  | .add80_0 => Sys2Proof.Machine.execAdd80_0 s
  | .or80_1 => Sys2Proof.Machine.execOr80_1 s
  | .adc80_2 => Sys2Proof.Machine.execAdc80_2 s
  | .sbb80_3 => Sys2Proof.Machine.execSbb80_3 s
  | .and80_4 => Sys2Proof.Machine.execAnd80_4 s
  | .sub80_5 => Sys2Proof.Machine.execSub80_5 s
  | .xor80_6 => Sys2Proof.Machine.execXor80_6 s
  | .cmp80_7 => Sys2Proof.Machine.execCmp80_7 s
  | .dispatch81 => Sys2Proof.Machine.execDispatch81 s
  | .add81_0 => Sys2Proof.Machine.execAdd81_0 s
  | .or81_1 => Sys2Proof.Machine.execOr81_1 s
  | .adc81_2 => Sys2Proof.Machine.execAdc81_2 s
  | .sbb81_3 => Sys2Proof.Machine.execSbb81_3 s
  | .and81_4 => Sys2Proof.Machine.execAnd81_4 s
  | .sub81_5 => Sys2Proof.Machine.execSub81_5 s
  | .xor81_6 => Sys2Proof.Machine.execXor81_6 s
  | .cmp81_7 => Sys2Proof.Machine.execCmp81_7 s
  | .dispatch82 => Sys2Proof.Machine.execDispatch82 s
  | .add82_0 => Sys2Proof.Machine.execAdd82_0 s
  | .or82_1 => Sys2Proof.Machine.execOr82_1 s
  | .adc82_2 => Sys2Proof.Machine.execAdc82_2 s
  | .sbb82_3 => Sys2Proof.Machine.execSbb82_3 s
  | .and82_4 => Sys2Proof.Machine.execAnd82_4 s
  | .sub82_5 => Sys2Proof.Machine.execSub82_5 s
  | .xor82_6 => Sys2Proof.Machine.execXor82_6 s
  | .cmp82_7 => Sys2Proof.Machine.execCmp82_7 s
  | .dispatch83 => Sys2Proof.Machine.execDispatch83 s
  | .add83_0 => Sys2Proof.Machine.execAdd83_0 s
  | .or83_1 => Sys2Proof.Machine.execOr83_1 s
  | .adc83_2 => Sys2Proof.Machine.execAdc83_2 s
  | .sbb83_3 => Sys2Proof.Machine.execSbb83_3 s
  | .and83_4 => Sys2Proof.Machine.execAnd83_4 s
  | .sub83_5 => Sys2Proof.Machine.execSub83_5 s
  | .xor83_6 => Sys2Proof.Machine.execXor83_6 s
  | .cmp83_7 => Sys2Proof.Machine.execCmp83_7 s
  | .test84 => Sys2Proof.Machine.execTest84 s
  | .test85 => Sys2Proof.Machine.execTest85 s
  | .xchg86 => Sys2Proof.Machine.execXchg86 s
  | .xchg87 => Sys2Proof.Machine.execXchg87 s
  | .mov88 => Sys2Proof.Machine.execMov88 s
  | .mov89 => Sys2Proof.Machine.execMov89 s
  | .mov8A => Sys2Proof.Machine.execMov8A s
  | .mov8B => Sys2Proof.Machine.execMov8B s
  | .mov8C => Sys2Proof.Machine.execMov8C s
  | .lea8D => Sys2Proof.Machine.execLea8D s
  | .mov8E => Sys2Proof.Machine.execMov8E s
  | .dispatch8F => Sys2Proof.Machine.execDispatch8F s
  | .pop8F_0 => Sys2Proof.Machine.execPop8F_0 s
  | .nop90 => Sys2Proof.Machine.execNop90 s
  | .xchg91 => Sys2Proof.Machine.execXchg91 s
  | .cwde98 => Sys2Proof.Machine.execCwde98 s
  | .cdq99 => Sys2Proof.Machine.execCdq99 s
  | .fwait9B => Sys2Proof.Machine.execFwait9B s
  | .pushf9C => Sys2Proof.Machine.execPushf9C s
  | .popf9D => Sys2Proof.Machine.execPopf9D s
  | .sahf9E => Sys2Proof.Machine.execSahf9E s
  | .lahf9F => Sys2Proof.Machine.execLahf9F s
  | .movA0 => Sys2Proof.Machine.execMovA0 s
  | .movA1 => Sys2Proof.Machine.execMovA1 s
  | .movA2 => Sys2Proof.Machine.execMovA2 s
  | .movA3 => Sys2Proof.Machine.execMovA3 s
  | .movsA4 => Sys2Proof.Machine.execMovsA4 s
  | .movsA5 => Sys2Proof.Machine.execMovsA5 s
  | .cmpsA6 => Sys2Proof.Machine.execCmpsA6 s
  | .cmpsA7 => Sys2Proof.Machine.execCmpsA7 s
  | .testA8 => Sys2Proof.Machine.execTestA8 s
  | .testA9 => Sys2Proof.Machine.execTestA9 s
  | .stosAA => Sys2Proof.Machine.execStosAA s
  | .stosAB => Sys2Proof.Machine.execStosAB s
  | .lodsAC => Sys2Proof.Machine.execLodsAC s
  | .lodsAD => Sys2Proof.Machine.execLodsAD s
  | .scasAE => Sys2Proof.Machine.execScasAE s
  | .scasAF => Sys2Proof.Machine.execScasAF s
  | .movB0 => Sys2Proof.Machine.execMovB0 s
  | .movB8 => Sys2Proof.Machine.execMovB8 s
  | .dispatchC0 => Sys2Proof.Machine.execDispatchC0 s
  | .rolC0_0 => Sys2Proof.Machine.execRolC0_0 s
  | .rorC0_1 => Sys2Proof.Machine.execRorC0_1 s
  | .rclC0_2 => Sys2Proof.Machine.execRclC0_2 s
  | .rcrC0_3 => Sys2Proof.Machine.execRcrC0_3 s
  | .shlC0_4 => Sys2Proof.Machine.execShlC0_4 s
  | .shrC0_5 => Sys2Proof.Machine.execShrC0_5 s
  | .sarC0_7 => Sys2Proof.Machine.execSarC0_7 s
  | .dispatchC1 => Sys2Proof.Machine.execDispatchC1 s
  | .rolC1_0 => Sys2Proof.Machine.execRolC1_0 s
  | .rorC1_1 => Sys2Proof.Machine.execRorC1_1 s
  | .rclC1_2 => Sys2Proof.Machine.execRclC1_2 s
  | .rcrC1_3 => Sys2Proof.Machine.execRcrC1_3 s
  | .shlC1_4 => Sys2Proof.Machine.execShlC1_4 s
  | .shrC1_5 => Sys2Proof.Machine.execShrC1_5 s
  | .sarC1_7 => Sys2Proof.Machine.execSarC1_7 s
  | .retC2 => Sys2Proof.Machine.execRetC2 s
  | .retC3 => Sys2Proof.Machine.execRetC3 s
  | .lesC4 => Sys2Proof.Machine.execLesC4 s
  | .ldsC5 => Sys2Proof.Machine.execLdsC5 s
  | .dispatchC6 => Sys2Proof.Machine.execDispatchC6 s
  | .movC6_0 => Sys2Proof.Machine.execMovC6_0 s
  | .dispatchC7 => Sys2Proof.Machine.execDispatchC7 s
  | .movC7_0 => Sys2Proof.Machine.execMovC7_0 s
  | .leaveC9 => Sys2Proof.Machine.execLeaveC9 s
  | .retfCA => Sys2Proof.Machine.execRetfCA s
  | .retfCB => Sys2Proof.Machine.execRetfCB s
  | .int3CC => Sys2Proof.Machine.execInt3CC s
  | .intCD => Sys2Proof.Machine.execIntCD s
  | .intoCE => Sys2Proof.Machine.execIntoCE s
  | .iretCF => Sys2Proof.Machine.execIretCF s
  | .dispatchD0 => Sys2Proof.Machine.execDispatchD0 s
  | .rolD0_0 => Sys2Proof.Machine.execRolD0_0 s
  | .rorD0_1 => Sys2Proof.Machine.execRorD0_1 s
  | .rclD0_2 => Sys2Proof.Machine.execRclD0_2 s
  | .rcrD0_3 => Sys2Proof.Machine.execRcrD0_3 s
  | .shlD0_4 => Sys2Proof.Machine.execShlD0_4 s
  | .shrD0_5 => Sys2Proof.Machine.execShrD0_5 s
  | .sarD0_7 => Sys2Proof.Machine.execSarD0_7 s
  | .dispatchD1 => Sys2Proof.Machine.execDispatchD1 s
  | .rolD1_0 => Sys2Proof.Machine.execRolD1_0 s
  | .rorD1_1 => Sys2Proof.Machine.execRorD1_1 s
  | .rclD1_2 => Sys2Proof.Machine.execRclD1_2 s
  | .rcrD1_3 => Sys2Proof.Machine.execRcrD1_3 s
  | .shlD1_4 => Sys2Proof.Machine.execShlD1_4 s
  | .shrD1_5 => Sys2Proof.Machine.execShrD1_5 s
  | .sarD1_7 => Sys2Proof.Machine.execSarD1_7 s
  | .dispatchD2 => Sys2Proof.Machine.execDispatchD2 s
  | .rolD2_0 => Sys2Proof.Machine.execRolD2_0 s
  | .rorD2_1 => Sys2Proof.Machine.execRorD2_1 s
  | .rclD2_2 => Sys2Proof.Machine.execRclD2_2 s
  | .rcrD2_3 => Sys2Proof.Machine.execRcrD2_3 s
  | .shlD2_4 => Sys2Proof.Machine.execShlD2_4 s
  | .shrD2_5 => Sys2Proof.Machine.execShrD2_5 s
  | .sarD2_7 => Sys2Proof.Machine.execSarD2_7 s
  | .dispatchD3 => Sys2Proof.Machine.execDispatchD3 s
  | .rolD3_0 => Sys2Proof.Machine.execRolD3_0 s
  | .rorD3_1 => Sys2Proof.Machine.execRorD3_1 s
  | .rclD3_2 => Sys2Proof.Machine.execRclD3_2 s
  | .rcrD3_3 => Sys2Proof.Machine.execRcrD3_3 s
  | .shlD3_4 => Sys2Proof.Machine.execShlD3_4 s
  | .shrD3_5 => Sys2Proof.Machine.execShrD3_5 s
  | .sarD3_7 => Sys2Proof.Machine.execSarD3_7 s
  | .aamD4 => Sys2Proof.Machine.execAamD4 s
  | .aadD5 => Sys2Proof.Machine.execAadD5 s
  | .xlatD7 => Sys2Proof.Machine.execXlatD7 s
  | .loopneE0 => Sys2Proof.Machine.execLoopneE0 s
  | .loopeE1 => Sys2Proof.Machine.execLoopeE1 s
  | .loopE2 => Sys2Proof.Machine.execLoopE2 s
  | .jecxzE3 => Sys2Proof.Machine.execJecxzE3 s
  | .inE4 => Sys2Proof.Machine.execInE4 s
  | .inE5 => Sys2Proof.Machine.execInE5 s
  | .outE6 => Sys2Proof.Machine.execOutE6 s
  | .outE7 => Sys2Proof.Machine.execOutE7 s
  | .callE8 => Sys2Proof.Machine.execCallE8 s
  | .jmpE9 => Sys2Proof.Machine.execJmpE9 s
  | .jmpEB => Sys2Proof.Machine.execJmpEB s
  | .inEC => Sys2Proof.Machine.execInEC s
  | .inED => Sys2Proof.Machine.execInED s
  | .outEE => Sys2Proof.Machine.execOutEE s
  | .outEF => Sys2Proof.Machine.execOutEF s
  | .hltF4 => Sys2Proof.Machine.execHltF4 s
  | .cmcF5 => Sys2Proof.Machine.execCmcF5 s
  | .dispatchF6 => Sys2Proof.Machine.execDispatchF6 s
  | .testF6_0 => Sys2Proof.Machine.execTestF6_0 s
  | .notF6_2 => Sys2Proof.Machine.execNotF6_2 s
  | .negF6_3 => Sys2Proof.Machine.execNegF6_3 s
  | .mulF6_4 => Sys2Proof.Machine.execMulF6_4 s
  | .imulF6_5 => Sys2Proof.Machine.execImulF6_5 s
  | .divF6_6 => Sys2Proof.Machine.execDivF6_6 s
  | .idivF6_7 => Sys2Proof.Machine.execIdivF6_7 s
  | .dispatchF7 => Sys2Proof.Machine.execDispatchF7 s
  | .testF7_0 => Sys2Proof.Machine.execTestF7_0 s
  | .notF7_2 => Sys2Proof.Machine.execNotF7_2 s
  | .negF7_3 => Sys2Proof.Machine.execNegF7_3 s
  | .mulF7_4 => Sys2Proof.Machine.execMulF7_4 s
  | .imulF7_5 => Sys2Proof.Machine.execImulF7_5 s
  | .divF7_6 => Sys2Proof.Machine.execDivF7_6 s
  | .idivF7_7 => Sys2Proof.Machine.execIdivF7_7 s
  | .clcF8 => Sys2Proof.Machine.execClcF8 s
  | .stcF9 => Sys2Proof.Machine.execStcF9 s
  | .cliFA => Sys2Proof.Machine.execCliFA s
  | .stiFB => Sys2Proof.Machine.execStiFB s
  | .cldFC => Sys2Proof.Machine.execCldFC s
  | .stdFD => Sys2Proof.Machine.execStdFD s
  | .dispatchFE => Sys2Proof.Machine.execDispatchFE s
  | .incFE_0 => Sys2Proof.Machine.execIncFE_0 s
  | .decFE_1 => Sys2Proof.Machine.execDecFE_1 s
  | .dispatchFF => Sys2Proof.Machine.execDispatchFF s
  | .incFF_0 => Sys2Proof.Machine.execIncFF_0 s
  | .decFF_1 => Sys2Proof.Machine.execDecFF_1 s
  | .callFF_2 => Sys2Proof.Machine.execCallFF_2 s
  | .callfFF_3 => Sys2Proof.Machine.execCallfFF_3 s
  | .jmpFF_4 => Sys2Proof.Machine.execJmpFF_4 s
  | .jmpfFF_5 => Sys2Proof.Machine.execJmpfFF_5 s
  | .pushFF_6 => Sys2Proof.Machine.execPushFF_6 s
  | .dispatch0F00 => Sys2Proof.Machine.execDispatch0F00 s
  | .sldt0F00_0 => Sys2Proof.Machine.execSldt0F00_0 s
  | .str0F00_1 => Sys2Proof.Machine.execStr0F00_1 s
  | .lldt0F00_2 => Sys2Proof.Machine.execLldt0F00_2 s
  | .ltr0F00_3 => Sys2Proof.Machine.execLtr0F00_3 s
  | .verr0F00_4 => Sys2Proof.Machine.execVerr0F00_4 s
  | .verw0F00_5 => Sys2Proof.Machine.execVerw0F00_5 s
  | .dispatch0F01 => Sys2Proof.Machine.execDispatch0F01 s
  | .sgdt0F01_0 => Sys2Proof.Machine.execSgdt0F01_0 s
  | .sidt0F01_1 => Sys2Proof.Machine.execSidt0F01_1 s
  | .lgdt0F01_2 => Sys2Proof.Machine.execLgdt0F01_2 s
  | .lidt0F01_3 => Sys2Proof.Machine.execLidt0F01_3 s
  | .smsw0F01_4 => Sys2Proof.Machine.execSmsw0F01_4 s
  | .lmsw0F01_6 => Sys2Proof.Machine.execLmsw0F01_6 s
  | .invlpg0F01_7 => Sys2Proof.Machine.execInvlpg0F01_7 s
  | .lar0F02 => Sys2Proof.Machine.execLar0F02 s
  | .lsl0F03 => Sys2Proof.Machine.execLsl0F03 s
  | .clts0F06 => Sys2Proof.Machine.execClts0F06 s
  | .invd0F08 => Sys2Proof.Machine.execInvd0F08 s
  | .wbinvd0F09 => Sys2Proof.Machine.execWbinvd0F09 s
  | .ud20F0B => Sys2Proof.Machine.execUd20F0B s
  | .nop0F1F => Sys2Proof.Machine.execNop0F1F s
  | .movCr0F20 => Sys2Proof.Machine.execMovCr0F20 s
  | .movDr0F21 => Sys2Proof.Machine.execMovDr0F21 s
  | .movCr0F22 => Sys2Proof.Machine.execMovCr0F22 s
  | .movDr0F23 => Sys2Proof.Machine.execMovDr0F23 s
  | .wrmsr0F30 => Sys2Proof.Machine.execWrmsr0F30 s
  | .rdtsc0F31 => Sys2Proof.Machine.execRdtsc0F31 s
  | .rdmsr0F32 => Sys2Proof.Machine.execRdmsr0F32 s
  | .rdpmc0F33 => Sys2Proof.Machine.execRdpmc0F33 s
  | .sysenter0F34 => Sys2Proof.Machine.execSysenter0F34 s
  | .sysexit0F35 => Sys2Proof.Machine.execSysexit0F35 s
  | .cmovo0F40 => Sys2Proof.Machine.execCmovo0F40 s
  | .cmovno0F41 => Sys2Proof.Machine.execCmovno0F41 s
  | .cmovb0F42 => Sys2Proof.Machine.execCmovb0F42 s
  | .cmovae0F43 => Sys2Proof.Machine.execCmovae0F43 s
  | .cmove0F44 => Sys2Proof.Machine.execCmove0F44 s
  | .cmovne0F45 => Sys2Proof.Machine.execCmovne0F45 s
  | .cmovbe0F46 => Sys2Proof.Machine.execCmovbe0F46 s
  | .cmova0F47 => Sys2Proof.Machine.execCmova0F47 s
  | .cmovs0F48 => Sys2Proof.Machine.execCmovs0F48 s
  | .cmovns0F49 => Sys2Proof.Machine.execCmovns0F49 s
  | .cmovp0F4A => Sys2Proof.Machine.execCmovp0F4A s
  | .cmovnp0F4B => Sys2Proof.Machine.execCmovnp0F4B s
  | .cmovl0F4C => Sys2Proof.Machine.execCmovl0F4C s
  | .cmovge0F4D => Sys2Proof.Machine.execCmovge0F4D s
  | .cmovle0F4E => Sys2Proof.Machine.execCmovle0F4E s
  | .cmovg0F4F => Sys2Proof.Machine.execCmovg0F4F s
  | .jo0F80 => Sys2Proof.Machine.execJo0F80 s
  | .jno0F81 => Sys2Proof.Machine.execJno0F81 s
  | .jb0F82 => Sys2Proof.Machine.execJb0F82 s
  | .jae0F83 => Sys2Proof.Machine.execJae0F83 s
  | .je0F84 => Sys2Proof.Machine.execJe0F84 s
  | .jne0F85 => Sys2Proof.Machine.execJne0F85 s
  | .jbe0F86 => Sys2Proof.Machine.execJbe0F86 s
  | .ja0F87 => Sys2Proof.Machine.execJa0F87 s
  | .js0F88 => Sys2Proof.Machine.execJs0F88 s
  | .jns0F89 => Sys2Proof.Machine.execJns0F89 s
  | .jp0F8A => Sys2Proof.Machine.execJp0F8A s
  | .jnp0F8B => Sys2Proof.Machine.execJnp0F8B s
  | .jl0F8C => Sys2Proof.Machine.execJl0F8C s
  | .jge0F8D => Sys2Proof.Machine.execJge0F8D s
  | .jle0F8E => Sys2Proof.Machine.execJle0F8E s
  | .jg0F8F => Sys2Proof.Machine.execJg0F8F s
  | .seto0F90 => Sys2Proof.Machine.execSeto0F90 s
  | .setno0F91 => Sys2Proof.Machine.execSetno0F91 s
  | .setb0F92 => Sys2Proof.Machine.execSetb0F92 s
  | .setae0F93 => Sys2Proof.Machine.execSetae0F93 s
  | .sete0F94 => Sys2Proof.Machine.execSete0F94 s
  | .setne0F95 => Sys2Proof.Machine.execSetne0F95 s
  | .setbe0F96 => Sys2Proof.Machine.execSetbe0F96 s
  | .seta0F97 => Sys2Proof.Machine.execSeta0F97 s
  | .sets0F98 => Sys2Proof.Machine.execSets0F98 s
  | .setns0F99 => Sys2Proof.Machine.execSetns0F99 s
  | .setp0F9A => Sys2Proof.Machine.execSetp0F9A s
  | .setnp0F9B => Sys2Proof.Machine.execSetnp0F9B s
  | .setl0F9C => Sys2Proof.Machine.execSetl0F9C s
  | .setge0F9D => Sys2Proof.Machine.execSetge0F9D s
  | .setle0F9E => Sys2Proof.Machine.execSetle0F9E s
  | .setg0F9F => Sys2Proof.Machine.execSetg0F9F s
  | .push0FA0 => Sys2Proof.Machine.execPush0FA0 s
  | .pop0FA1 => Sys2Proof.Machine.execPop0FA1 s
  | .cpuid0FA2 => Sys2Proof.Machine.execCpuid0FA2 s
  | .bt0FA3 => Sys2Proof.Machine.execBt0FA3 s
  | .shld0FA4 => Sys2Proof.Machine.execShld0FA4 s
  | .push0FA8 => Sys2Proof.Machine.execPush0FA8 s
  | .pop0FA9 => Sys2Proof.Machine.execPop0FA9 s
  | .rsm0FAA => Sys2Proof.Machine.execRsm0FAA s
  | .bts0FAB => Sys2Proof.Machine.execBts0FAB s
  | .shrd0FAC => Sys2Proof.Machine.execShrd0FAC s
  | .imul0FAF => Sys2Proof.Machine.execImul0FAF s
  | .cmpxchg0FB0 => Sys2Proof.Machine.execCmpxchg0FB0 s
  | .cmpxchg0FB1 => Sys2Proof.Machine.execCmpxchg0FB1 s
  | .lss0FB2 => Sys2Proof.Machine.execLss0FB2 s
  | .btr0FB3 => Sys2Proof.Machine.execBtr0FB3 s
  | .lfs0FB4 => Sys2Proof.Machine.execLfs0FB4 s
  | .lgs0FB5 => Sys2Proof.Machine.execLgs0FB5 s
  | .movzx0FB6 => Sys2Proof.Machine.execMovzx0FB6 s
  | .movzx0FB7 => Sys2Proof.Machine.execMovzx0FB7 s
  | .dispatch0FBA => Sys2Proof.Machine.execDispatch0FBA s
  | .bt0FBA_4 => Sys2Proof.Machine.execBt0FBA_4 s
  | .bts0FBA_5 => Sys2Proof.Machine.execBts0FBA_5 s
  | .btr0FBA_6 => Sys2Proof.Machine.execBtr0FBA_6 s
  | .btc0FBA_7 => Sys2Proof.Machine.execBtc0FBA_7 s
  | .btc0FBB => Sys2Proof.Machine.execBtc0FBB s
  | .bsf0FBC => Sys2Proof.Machine.execBsf0FBC s
  | .bsr0FBD => Sys2Proof.Machine.execBsr0FBD s
  | .movsx0FBE => Sys2Proof.Machine.execMovsx0FBE s
  | .movsx0FBF => Sys2Proof.Machine.execMovsx0FBF s
  | .xadd0FC0 => Sys2Proof.Machine.execXadd0FC0 s
  | .xadd0FC1 => Sys2Proof.Machine.execXadd0FC1 s
  | .dispatch0FC7 => Sys2Proof.Machine.execDispatch0FC7 s
  | .cmpxchg8b0FC7_1 => Sys2Proof.Machine.execCmpxchg8b0FC7_1 s
  | .bswap0FC8 => Sys2Proof.Machine.execBswap0FC8 s
  | .xchg66_90 => Sys2Proof.Machine.execXchg66_90 s

end Sys2Proof.Machine
end

