-- ==== Sys2Proof/Machine/Format.lean ====
section
/-! DEFINITION. The formatter (49_formatter.md): the AT&T text of the record, as a function of the record, the descriptor, START, POS,
the defaults and VBASE. It writes nothing; what the host's FORMAT request leaves is in Machine/Run.lean. -/

namespace Sys2Proof.Machine

/-- What rendering gives: a text, a failure status (R525), or a read of a field that holds no value (10_state.md R66; log entry 9). -/
inductive Rendered where
  | text (t : String)
  | fails (e : Status)
  | noValue (f : Field)
  deriving DecidableEq, Repr

/-- "the first failing renderer decides FSTATUS" (R526). -/
def Rendered.andThen (r : Rendered) (k : String → Rendered) : Rendered :=
  match r with
  | .text t => k t
  | .fails e => .fails e
  | .noValue f => .noValue f

/-- A field of the record, or no value. -/
def field (f : Field) (o : Option α) (k : α → Rendered) : Rendered :=
  match o with
  | some v => k v
  | none => .noValue f

/-- A rule's text, or no rule (R525). -/
def ruleText : Option String → Rendered
  | some t => .text t
  | none => .fails .formatRuleGap

/-! Numbers and names. -/

/-- The digits of a number, the least significant last; `fuel` is one less than the most digits it writes. -/
def digits (base : Nat) : Nat → Nat → List Char → List Char
  | 0, n, acc => Nat.digitChar (n % base) :: acc
  | fuel + 1, n, acc =>
    if n / base = 0 then Nat.digitChar n :: acc
    else digits base fuel (n / base) (Nat.digitChar (n % base) :: acc)

/-- HEX(v) (R510): lowercase, no leading zeros. -/
def hex (n : Nat) : String := "0x" ++ String.ofList (digits 16 n.log2 n [])

/-- A number in decimal. -/
def decimal (n : Nat) : String := String.ofList (digits 10 n.log2 n [])

/-- The general-register names (10_state.md R42). -/
def gprNames : SizeClass → List String
  | .byte => ["al", "cl", "dl", "bl", "ah", "ch", "dh", "bh"]
  | .word => ["ax", "cx", "dx", "bx", "sp", "bp", "si", "di"]
  | .long => ["eax", "ecx", "edx", "ebx", "esp", "ebp", "esi", "edi"]
  | .quad => ["rax", "rcx", "rdx", "rbx", "rsp", "rbp", "rsi", "rdi"]
  | .none => []
  | .full => []

/-- A general register of code c named at a size (R512). -/
def gpr (s : SizeClass) (c : BitVec 3) : Rendered :=
  ruleText (((gprNames s)[c.toNat]?).map ("%" ++ ·))

/-- The segment-register names (10_state.md R43). -/
def segNames : List String := ["es", "cs", "ss", "ds", "fs", "gs"]

/-- A segment register (R513). -/
def segReg (c : BitVec 3) : Rendered := ruleText ((segNames[c.toNat]?).map ("%" ++ ·))

/-- The size letter (R524). -/
def sizeLetter : SizeClass → Rendered
  | .byte => .text "b"
  | .word => .text "w"
  | .long => .text "l"
  | .none => .fails .formatRuleGap
  | .quad => .fails .formatRuleGap
  | .full => .fails .formatRuleGap

/-- bytes(s) for a mask; a size without a byte count has no rule (R192; log entry 11). -/
def withBytes (s : SizeClass) (k : Nat → Rendered) : Rendered :=
  match sizeBytes s with
  | some n => k n
  | none => .fails .formatRuleGap

/-! Memory expressions. -/

/-- The first segment override in PFX order, as its name (R515). -/
def segOverride (pfx : BitVec 11) : Option String :=
  (((List.range 6).filter fun k => pfx.getLsbD (3 + k)).head?).bind fun k => segNames[k]?

/-- SEGOVR (R515). -/
def segOvr (pfx : BitVec 11) : String :=
  match segOverride pfx with
  | some n => "%" ++ n ++ ":"
  | none => ""

/-- The ID of lea (rule R365), for which alone the placeholder is printed (R519). -/
def idLea : Nat := 65

/-- The text of a register inside parentheses: always its 32-bit name (R517). -/
def name32 (c : BitVec 3) : String := "%" ++ ((gprNames .long)[c.toNat]?).getD ""

/-- PAREN (R517, R519). -/
def paren (d : Desc) (di : Di) (mod : BitVec 2) (rm : BitVec 3) : Rendered :=
  if di.scale ≠ 0 then
    field .index di.index fun index => field .base di.base fun base =>
      let scale := decimal di.scale
      if mod = 0 ∧ base = 5 then
        if index = 4 then (if d.id = idLea then .text ("(,%eiz," ++ scale ++ ")") else .text "")
        else .text ("(," ++ name32 index ++ "," ++ scale ++ ")")
      else if index = 4 then .text ("(" ++ name32 base ++ ")")
      else .text ("(" ++ name32 base ++ "," ++ name32 index ++ "," ++ scale ++ ")")
  else if mod = 0 ∧ rm = 5 then .text ""
  else .text ("(" ++ name32 rm ++ ")")

/-- A displacement read as a signed 32-bit value (R518). -/
def signedHex (v : Word) : String :=
  if v.toInt < 0 then "-" ++ hex v.toInt.natAbs else hex v.toInt.natAbs

/-- DISPTEXT (R518), given PAREN. -/
def dispText (di : Di) (p : String) : Rendered :=
  if di.dispSize = .none then .text ""
  else field .disp di.disp fun v =>
    if p = "" then withBytes di.dispSize fun n => .text (hex (v.toNat % 2 ^ (8 * n)))
    else .text (signedHex v)

/-- MEM (R517, R520). -/
def memExpr (d : Desc) (w : Work) (mod : BitVec 2) (rm : BitVec 3) : Rendered :=
  if adsize d w = .long then
    (paren d w.di mod rm).andThen fun p =>
      (dispText w.di p).andThen fun t => .text (segOvr w.di.pfx ++ t ++ p)
  else .fails .unsupportedAddressing

/-- A register-or-memory operand named at a size (R517, R523). -/
def rmOperand (d : Desc) (w : Work) (size : SizeClass) : Rendered :=
  field .mod w.di.mod fun mod => field .rm w.di.rm fun rm =>
    (if mod = 3 then gpr size rm else memExpr d w mod rm).andThen fun t =>
      .text (if d.indirect then "*" ++ t else t)

/-! The other operands. -/

/-- A register operand of code REG at a size (R512). -/
def regOperand (w : Work) (size : SizeClass) : Rendered := field .reg w.di.reg (gpr size)

/-- An immediate masked to n bytes (R510). -/
def immOperand (w : Work) (n : Nat) : Rendered :=
  field .imm w.di.imm fun v => .text ("$" ++ hex (v.toNat % 2 ^ (8 * n)))

/-- mask_N(VBASE + START + (POS - START) + REL), N = 8·n (R516; log entry 13). -/
def targetText (w : Work) (n : Nat) (rel : Int) : Rendered :=
  field .start w.ctx.start fun start =>
    .text (hex (((w.ctx.vbase : Int) + start + ((w.ctx.pos : Int) - start) + rel).emod (2 ^ (8 * n))).toNat)

/-- A relative target (R516). -/
def target (d : Desc) (w : Work) (rel : Nat → Word → Int) : Rendered :=
  withBytes (adsize d w) fun n => field .imm w.di.imm fun v => targetText w n (rel n v)

/-- The string operands (R506). -/
def stringSource (w : Work) : Rendered :=
  .text ("%" ++ (segOverride w.di.pfx).getD "ds" ++ ":(%esi)")

/-- The size a tag's operand is named at (R512): its size class, or opsize() where the class is full (10_state.md R52, 30_encoding.md
R125). -/
def tagSize (d : Desc) (w : Work) (t : Tag) : SizeClass := if t.sizeClass = .full then opsize d w else t.sizeClass

/-- One operand tag (R506, R510 to R523). DESIGN CHOICE (log entry 28): under SPECIAL = string a tag to which R506 gives no text, and under
SPECIAL = dtab every tag of a descriptor with other than one, has the text of the generic operand renderers. -/
def operandText (d : Desc) (w : Work) (t : Tag) : Rendered :=
  match t with
  | .al | .eax => gpr (tagSize d w t) 0
  | .cl => gpr (tagSize d w t) 1
  | .dx => .text "(%dx)"
  | .gb | .gw | .gv | .zb | .zv | .zd => regOperand w (tagSize d w t)
  | .eb | .ew | .ev | .rd => rmOperand d w (tagSize d w t)
  | .m => rmOperand d w (opsize d w)
  | .sw | .seg2 | .fs | .gs => field .reg w.di.reg segReg
  | .cr => field .reg w.di.reg fun c => .text ("%cr" ++ decimal c.toNat)
  | .dr => field .reg w.di.reg fun c => .text ("%db" ++ decimal c.toNat)
  | .ib | .iw | .il | .iv => withBytes (tagSize d w t) (immOperand w)
  | .ibs => withBytes (opsize d w) (immOperand w)
  | .ov => field .imm w.di.imm fun v => .text (segOvr w.di.pfx ++ hex v.toNat)
  | .jb => target d w fun _ v => (v.setWidth 8).toInt
  | .jv => target d w fun n v => (BitVec.ofNat (8 * n) v.toNat).toInt
  | .xb | .xv => if d.special = .string then stringSource w else .fails .formatRuleGap
  | .yb | .yv => if d.special = .string then .text "%es:(%edi)" else .fails .formatRuleGap
  | .none | .other _ => .fails .formatRuleGap

/-- The operand texts, the given tags being in output order, joined by commas (R503, R526). -/
def operandTexts (d : Desc) (w : Work) : List Tag → Rendered
  | [] => .text ""
  | [t] => operandText d w t
  | t :: ts => (operandText d w t).andThen fun a => (operandTexts d w ts).andThen fun b => .text (a ++ "," ++ b)

/-! The whole text. -/

/-- The IDs after whose REPZ the text is rep (R504): ins, outs, movs, stos, lods. -/
def repIds : List Nat := [123, 124, 125, 127, 128]

/-- The IDs of the string instructions with a size letter (R506): ins, outs, movs, cmps. -/
def letterIds : List Nat := [123, 124, 125, 126]

/-- PREFIXTEXT (R504). -/
def prefixText (d : Desc) (pfx : BitVec 11) : String :=
  (if pfx.getLsbD 0 then "lock " else "")
    ++ (if pfx.getLsbD 1 then "repnz " else "")
    ++ (if pfx.getLsbD 2 then (if repIds.contains d.id then "rep " else "repz ") else "")

/-- ATT or ATT16 (R508). -/
def genericMnemonic (d : Desc) (w : Work) : String :=
  match d.att16 with
  | some t =>
    if (match d.att16By with | .operand => opsize d w | .address => adsize d w) = .word then t else d.att
  | none => d.att

/-- The mnemonic with its size letter (R506 to R509). -/
def mnemonicText (d : Desc) (w : Work) : Rendered :=
  match d.special with
  | .none =>
    if d.suffix then
      field .mod w.di.mod fun mod =>
        if mod = 3 then .text (genericMnemonic d w)
        else (sizeLetter (opsize d w)).andThen fun l => .text (genericMnemonic d w ++ l)
    else .text (genericMnemonic d w)
  | .string =>
    if letterIds.contains d.id then (sizeLetter (opsize d w)).andThen fun l => .text (d.att ++ l)
    else .text d.att
  | .dtab =>
    if d.suffix then (sizeLetter (opsize d w)).andThen fun l => .text (d.att ++ l)
    else .text d.att

/-- The operands after the mnemonic: none, or one space and their texts, last tag first (R503). -/
def operandsText (d : Desc) (w : Work) : Rendered :=
  if d.operands.isEmpty then .text ""
  else (operandTexts d w d.operands.reverse).andThen fun t => .text (" " ++ t)

/-- TEXT of a record under its descriptor (R503, R505, R526). The string formatter needs a 32-bit address size (R506; log entry 12). -/
def renderDesc (d : Desc) (w : Work) : Rendered :=
  (mnemonicText d w).andThen fun m =>
    if d.special = .string ∧ adsize d w ≠ .long then .fails .unsupportedAddressing
    else (operandsText d w).andThen fun t => .text (prefixText d w.di.pfx ++ m ++ t)

/-- TEXT of the context's record. -/
def State.render (s : State) : Rendered :=
  field .record s.di fun di => field .desc (di.desc.bind s.descOf) fun d => renderDesc d ⟨s, di⟩

end Sys2Proof.Machine
end

