-- ==== Sys2Proof/Machine/Pipeline.lean ====
section
/-! DEFINITION. The DECODE transaction over any opcode tables, stage by stage as 40_decode_pipeline.md R161 to R198 write it. A context
whose RESET fixed tables of the host's own (00_scope.md R12, R13) decodes by it; over REF it is what the rows' meanings do. -/

namespace Sys2Proof.Machine

/-- PrefixScan() (R164 to R166). The fuel bounds the bytes it can consume, at most L - START and one failing read. -/
def prefixScan : Nat → Work → Flow
  | 0, w => .go w
  | fuel + 1, w =>
    readByte w fun b w =>
      match prefixBit b with
      | some i => prefixScan fuel (recordPrefix i w)
      | none => .go (stepBack w)

/-- The stages after a lookup (R171 to R175, R182, R197). -/
def afterLookup (tg : Nat → Option Desc) (ref : DescRef) (key : Nat) (found : Option Desc) (w : Work) : Flow :=
  match found with
  | none => lookupFailed key .unknownOpcode w
  | some d =>
    (modRmStage d (select ref key d w)).andThen fun w =>
      if d.group then
        (resolveGroup tg key w).andThen fun w =>
          match w.di.opkey.bind tg with
          | some m => operandStage m w
          | none => .go w
      else operandStage d w

/-- ResolveOpcode() and what follows it (R167 to R170). -/
def resolveOpcode (t : Tables) (w : Work) : Flow :=
  readByte w fun b w =>
    let w := latchOpcode b w
    if b = 0x90 ∧ w.di.opszSeen = true then finishRow .xchg66 0x90 Ref.xchg66_90 w
    else if b = 0x0F then
      readByte w fun b2 w =>
        afterLookup (rowAt t.tg) (.t2 b2) (0x0F00 + b2.toNat) (rowAt t.t2 b2.toNat) (latchOpcode b2 w)
    else afterLookup (rowAt t.tg) (.t1 b) b.toNat (rowAt t.t1 b.toNat) w

/-- DECODE over tables (R161), from an idle context. -/
def pipeline (t : Tables) (s : State) : State :=
  let w : Work := ⟨{ s with start := some s.pos }, Di.fresh⟩
  ((prefixScan (s.srcLen - s.pos + 1) w).andThen (resolveOpcode t)).state

end Sys2Proof.Machine
end

