-- ==== Sys2Proof/Machine/Run.lean ====
section
/-! DEFINITION. The host operations (00_scope.md R9; 40_decode_pipeline.md section 8; 49_formatter.md R501, R502): DECODE over the rows
the decoder selects, the setters, FORMAT, and the source's change (20_memory.md R97). -/

namespace Sys2Proof.Machine

/-! DECODE. -/

/-- Rows run one after another, as long as the DECODE they share has not ended. -/
def runRows : List Instr → State → Result
  | [], s => .next s
  | i :: is, s =>
    match exec i s with
    | .next t => if t.status.isSome then .next t else runRows is t
    | .fault f => .fault f
    | .refused r => .refused r

/-- What was selected, run after the prefix rows. -/
def runSelected (sel : Selected) (s : State) : Result :=
  match sel with
  | .row _ i _ _ => exec i s
  | .unknownOpcode _ _ => .next (nullOpcode s)
  | .endOfStream => .next (noOpcode s)

/-- The bytes at POS as the decoder reads them under the context's defaults. -/
def State.decoded (s : State) : Decoded := decode s.defOpsize s.defAdsize s.remaining

/-- The prefix rows, then what was selected. -/
def runDecoded (d : Decoded) (s : State) : Result :=
  match runRows d.prefixes s with
  | .next t => if d.prefixes ≠ [] ∧ t.status.isSome then .next t else runSelected d.selected t
  | .fault f => .fault f
  | .refused r => .refused r

/-- A context in which no DECODE is in progress, as every host operation finds it (R208). -/
def State.idle (s : State) : State :=
  match s.status with
  | none => { s with di := none }
  | some _ => s

/-- DECODE (R161): over REF by the rows, over tables of the host's own by the pipeline. -/
def decodeOp (s : State) : Result :=
  match s.tables with
  | .ref => runDecoded s.decoded s.idle
  | .custom t => .next (pipeline t s)

/-! The setters. -/

/-- The defaults from the flags (R203). -/
def recompute (s : State) : State :=
  { s with defOpsize := defaultSize s.pe s.dflag, defAdsize := defaultSize s.pe s.dflag }

/-- A request outside the host contract: it does not run, and the refusal mark stays (60_exceptions.md R607; log entry 8). -/
def refuseRequest (s : State) : State := { s with refusalMark := true }

/-- A setter that ran returns OK (00_scope.md R9, 60_exceptions.md R601, R602). DEDUCED (log entry 24): R602 has one code of kind success. -/
def setterOk (s : State) : State := { s with setStatus := some .ok }

/-- A refused setter: "no code; the operation does not run" (60_exceptions.md R607). -/
def refuseSetter (s : State) : State := { refuseRequest s with setStatus := none }

/-- SET_D(v) (R201). -/
def setDOp (v : Nat) (s : State) : State :=
  if v ≤ 1 then setterOk (if (v == 1) = s.dflag then s else recompute { s with dflag := v == 1 })
  else refuseSetter s

/-- SET_PE(v) (R202). -/
def setPeOp (v : Nat) (s : State) : State :=
  if v ≤ 1 then setterOk (if (v == 1) = s.pe then s else recompute { s with pe := v == 1 })
  else refuseSetter s

/-- SET_POS(p) (R204). -/
def setPosOp (p : Nat) (s : State) : State :=
  if p ≤ s.srcLen then setterOk { s with pos := p } else refuseSetter s

/-! FORMAT. -/

/-- FORMAT may run: the last DECODE succeeded, and the defaults are those it ended under (49_formatter.md R501, R502). -/
def State.formatAllowed (s : State) : Bool :=
  s.status == some .ok && s.fmtDefs == some (s.defOpsize, s.defAdsize)

/-- FORMAT() (R501): the pair it returns, and the mark of a refusal or a fault (60_exceptions.md R611). -/
def formatOp (s : State) : Result :=
  if s.formatAllowed then
    match s.render with
    | .text t => .next { s with reply := some ⟨.ok, some t⟩ }
    | .fails e =>
      .next { s with
        reply := some ⟨e, none⟩
        refusalMark := s.refusalMark || e == .unsupportedAddressing
        faultMark := s.faultMark || e.isFault }
    | .noValue f => .fault (.noValue f)
  else .next (refuseRequest s)

/-! The source's owner. -/

/-- A byte of the source changes between two transactions (20_memory.md R97; log entry 14). -/
def sourceByteOp (a : Nat) (b : Byte) (s : State) : State :=
  if a < s.srcLen then { s with src := s.src.write a b } else refuseRequest s

/-- One host operation, run to completion (40_decode_pipeline.md R208). The status it "then returns" (00_scope.md R9) stands where the host
reads it: DECODE's in STATUS, FORMAT's in the reply, a setter's in setStatus (log entry 24). -/
def runRequest (r : Request) (s : State) : Result :=
  match r with
  | .decode => decodeOp s
  | .setD v => .next (setDOp v s)
  | .setPe v => .next (setPeOp v s)
  | .setPos p => .next (setPosOp p s)
  | .format => formatOp s
  | .sourceByte a b => .next (sourceByteOp a b s)

/-- The next operation: the oldest pending one, or with none pending the DECODE of the decode loop (R206; log entry 1). -/
def runNext (s : State) : Result :=
  match s.requests with
  | [] => decodeOp s
  | r :: rs => runRequest r { s with requests := rs }

/-! Placing a table word where the next DECODE reads it (log entry 7). -/

/-- The bytes of a table word, padded with zeros to the longest instruction without prefixes. -/
def wordBytes (w : Nat) : List Byte := (tableBytes w).1 ++ zeroBytes Config.maxAfterPrefixes

/-- The source with the word's bytes from POS on, REF as its tables, and a DECODE as the next operation. -/
def placeWord (s : State) (w : Nat) : State :=
  { s with
    src := Memory.writeBytes s.src s.pos (wordBytes w)
    srcLen := max s.srcLen (s.pos + (wordBytes w).length)
    tables := .ref
    requests := if s.requests.isEmpty then [] else .decode :: s.requests }

end Sys2Proof.Machine
end

