-- ==== Sys2Proof/Machine/Step.lean ====
section
/-! DEFINITION. One step: one host operation. -/

namespace Sys2Proof.Machine

/-- One step of the machine. -/
def step (s : State) : Host.Outcome State Fault Refusal := runNext s

/-- The state whose next step decodes a table word (log entry 7). -/
def State.withFetchWord (s : State) (_nbits w : Nat) : State := placeWord s w

end Sys2Proof.Machine
end

