-- ==== Sys2Proof/Machine/Codes.lean ====
section
/-! DEFINITION. The numeric codes the spec gives its names: the size classes (10_state.md R52), SZOVR's eight bits (R63), the operand
tags (30_encoding.md R124) and the statuses (60_exceptions.md R602). State holds the names; a code is the view of one. -/

namespace Sys2Proof

/-- The 4-bit code of a size class (10_state.md R52). -/
def SizeClass.code : SizeClass → BitVec 4
  | .none => 0
  | .byte => 1
  | .word => 2
  | .long => 3
  | .quad => 4
  | .full => 5

/-- The size class of a 4-bit code; R52 gives no class to the codes 6 to 15. -/
def SizeClass.ofCode (c : BitVec 4) : Option SizeClass :=
  if c = 0 then some .none
  else if c = 1 then some .byte
  else if c = 2 then some .word
  else if c = 3 then some .long
  else if c = 4 then some .quad
  else if c = 5 then some .full
  else Option.none

namespace Machine

/-- SZOVR as its 8 bits: "high nibble = address size override, low nibble = operand size override" (10_state.md R63), each the code of a
size class or 0 for unset (R52). -/
def Szovr.byte (z : Szovr) : Byte := z.ad.code ++ z.op.code

/-- The two overrides that 8 bits hold, where both nibbles are codes of R52. -/
def Szovr.ofByte (b : Byte) : Option Szovr :=
  match SizeClass.ofCode (b.extractLsb' 4 4), SizeClass.ofCode (b.extractLsb' 0 4) with
  | some ad, some op => some ⟨ad, op⟩
  | _, _ => none

/-- The code of a status (60_exceptions.md R602; D14). -/
def Status.code : Status → Nat
  | .ok => 0
  | .endOfStream => 1
  | .unknownOpcode => 2
  | .groupLookupFailed => 3
  | .unsupportedAddressing => 4
  | .formatRuleGap => 5
  | .configAssert => 6

/-- The 34 operand tags by rising code (30_encoding.md R124: "the code is the tag's index"). -/
def Tag.vocabulary : List Tag :=
  [.none, .al, .eax, .cl, .dx, .gb, .gw, .gv, .eb, .ew, .ev, .m, .rd, .sw, .cr, .dr, .seg2]
    ++ [.fs, .gs, .zb, .zv, .zd, .ib, .iw, .il, .iv, .ibs, .ov, .jb, .jv, .xb, .xv, .yb, .yv]

/-- The tag of a code; above the vocabulary a code without a tag (log entry 20). -/
def Tag.ofCode (n : Nat) : Tag := Tag.vocabulary.getD n (.other (n - 34))

/-- The code of a tag (30_encoding.md R124). -/
def Tag.code : Tag → Nat
  | .other n => 34 + n
  | t => Tag.vocabulary.idxOf t

end Machine
end Sys2Proof
end

