-- ==== Sys2Proof/Machine/Reset.lean ====
section
/-! DEFINITION. RESET (70_reset_and_hazards.md R701 to R706): the context created over a byte source. -/

namespace Sys2Proof.Machine

/-- The arguments of RESET (R701; 00_scope.md R11), with the defaults of the OPEN parameters. -/
structure ResetParams where
  src : List Byte
  optable : OpTable := .ref
  initPe : Nat := Config.initPe
  initD : Nat := Config.initD
  initPos : Nat := Config.initPos
  immExt : ImmExt := Config.immExt
  vbase : Nat := Config.vbase
  deriving DecidableEq, Repr

/-- The context RESET makes once its checks pass (R702 to R706). -/
def ResetParams.context (p : ResetParams) : State :=
  let pe := p.initPe == 1
  let dflag := p.initD == 1
  { pos := p.initPos
    start := none
    pe := pe
    dflag := dflag
    defOpsize := defaultSize pe dflag
    defAdsize := defaultSize pe dflag
    di := none
    status := none
    src := Memory.writeBytes [] 0 p.src
    srcLen := p.src.length
    tables := p.optable
    immExt := p.immExt
    vbase := p.vbase
    fmtDefs := none
    refusalMark := false
    faultMark := false
    requests := []
    reply := none
    setStatus := none }

/-- RESET: an ill-formed table is refused (R612), and so are an INIT_POS above L and an INIT_PE or INIT_D outside 0 and 1 (R701). -/
def State.create (p : ResetParams) : Result :=
  if p.optable.tables.wf then
    if p.initPos ≤ p.src.length ∧ p.initPe ≤ 1 ∧ p.initD ≤ 1 then .next p.context
    else .refused .resetArgument
  else .refused .illFormedTable

end Sys2Proof.Machine
end

