-- ==== Sys2Proof/Safety.lean ====
section
/-! DEFINITION. What the spec says holds in every state a context can be in between two host operations (10_state.md), and how a decode
loop ends (00_scope.md R10). -/

namespace Sys2Proof.Machine

/-! The invariant. -/

/-- Every listed offset exists (20_memory.md R81, R92). -/
def Memory.below (m : Memory) (len : Nat) : Bool := m.all fun c => decide (c.1 < len)

/-- A status DECODE can leave over well-formed tables (60_exceptions.md R602, R606). -/
def Status.ofDecode : Status → Bool
  | .ok | .endOfStream | .unknownOpcode | .groupLookupFailed => true
  | .unsupportedAddressing | .formatRuleGap | .configAssert => false

/-- A status FORMAT returns (49_formatter.md R501). -/
def Status.ofFormat : Status → Bool
  | .ok | .unsupportedAddressing | .formatRuleGap => true
  | .endOfStream | .unknownOpcode | .groupLookupFailed | .configAssert => false

/-- The record's fields agree with each other: SCALE, INDEX and BASE (10_state.md R60, R66), DISP and DISP_SIZE (R61), the two seen
flags and PFX (R54, R55), the bound of OPKEY (R57). -/
structure Di.Legal (d : Di) : Prop where
  scale : d.scale ∈ [0, 1, 2, 4, 8]
  index : d.index.isSome = (d.scale != 0)
  base : d.base.isSome = (d.scale != 0)
  dispSize : d.dispSize ∈ [SizeClass.none, .byte, .word, .long]
  disp : d.disp.isSome = (d.dispSize != .none)
  opszSeen : d.opszSeen = d.pfx.getLsbD 9
  adszSeen : d.adszSeen = d.pfx.getLsbD 10
  opkey : ∀ k, d.opkey = some k → k < 2 ^ 24

/-- The fields that are valid after a successful DECODE of `d`, each under its condition (R66), hold a value. -/
structure Di.Valid (r : Di) (d : Desc) : Prop where
  mod : d.modRm = true → r.mod.isSome = true
  rm : d.modRm = true → r.rm.isSome = true
  reg : d.modRm = true ∨ d.operands.any Tag.writesReg = true → r.reg.isSome = true
  imm : d.operands.any Tag.immediate = true → r.imm.isSome = true

/-- The invariant between two host operations. -/
structure State.Inv (s : State) : Prop where
  /-- The source's contents are in canonical form, inside the source. -/
  srcWf : s.src.wf = true
  srcBelow : s.src.below s.srcLen = true
  /-- R45. -/
  pos : s.pos ≤ s.srcLen
  start : ∀ p, s.start = some p → p ≤ s.srcLen
  /-- R50. -/
  defOpsize : s.defOpsize = defaultSize s.pe s.dflag
  defAdsize : s.defAdsize = defaultSize s.pe s.dflag
  /-- R130, R612. -/
  tables : s.tables.tables.wf = true
  /-- No DECODE is in progress, and START, the record and STATUS hold values together (R705, R208). -/
  status : s.status.isSome = s.di.isSome
  started : s.start.isSome = s.di.isSome
  /-- R606: CONFIG_ASSERT is unreachable. -/
  decodeStatus : ∀ e, s.status = some e → e.ofDecode = true
  legal : ∀ d, s.di = some d → d.Legal
  /-- R56, R66 after a successful DECODE. -/
  valid : ∀ r, s.di = some r → s.status = some .ok → ∃ d, r.desc.bind s.descOf = some d ∧ r.Valid d
  /-- R501. -/
  reply : ∀ r, s.reply = some r → r.fstatus.ofFormat = true ∧ r.text.isSome = (r.fstatus == .ok)
  /-- R602, R607: a setter has no failure code. -/
  setStatus : ∀ e, s.setStatus = some e → e = .ok

/-! The end of a run (00_scope.md R10; 60_exceptions.md R611). -/

/-- The decode loop has ended: a DECODE whose STATUS is not OK; a faulted state is never final. -/
def State.final (s : State) : Bool :=
  match s.status with
  | some e => e != .ok && !s.faultMark
  | none => false

/-- The run ended cleanly: its last DECODE ended in END_OF_STREAM with POS = START and START = L. The POS meant is the one at that DECODE's
end, which a later SET_POS does not change. It was START exactly if START = L, since at a START below L the first read succeeds (the
statement RunEnd says so of every DECODE), and neither START nor L changes until the next DECODE. -/
def State.cleanEnd (s : State) : Bool :=
  s.status == some .endOfStream && s.start == some s.srcLen

/-- The run ended inside an instruction: END_OF_STREAM with POS > START at that DECODE's end (40_decode_pipeline.md R206), so with START
below L. -/
def State.truncated (s : State) : Bool :=
  s.status == some .endOfStream && (s.start.any fun p => decide (p < s.srcLen))

/-- The run ended with an error: "every other non-OK status" (R10). -/
def State.endedInError (s : State) : Bool :=
  (s.status.any fun e => e != .ok) && !s.cleanEnd

/-- No fault and no refusal has been recorded (60_exceptions.md R611). -/
def State.unmarked (s : State) : Bool := !s.faultMark && !s.refusalMark

end Sys2Proof.Machine
end

