-- ==== Sys2Proof/WellFormed.lean ====
section
/-! DEFINITION. When an instruction as syntax is one that bytes can encode under given sizes: every part the row has fits its field, a
part it does not have is zero, and the row is the one its opcode bytes select (30_encoding.md R111 to R123, R128, R134). -/

namespace Sys2Proof

/-- An addressing form: no SIB fields without a SIB byte (R111), and a displacement that fits its bytes (R121, R122). -/
def Rm.wf (ad : SizeClass) (m : Rm) : Bool :=
  (hasSib ad m.mod m.rm || m.sib == ⟨0, 0, 0⟩)
    && decide (m.disp.toNat < 256 ^ dispBytes ad m.mod m.rm m.sib.base)

/-- The register part: the group digit of a TG row (R117), any register of a ModR/M byte or of the opcode byte, else zero. -/
def Insn.regWf (x : Insn) : Bool :=
  match x.row.shape.digit with
  | some d => x.reg == d
  | none => x.row.shape.modRm || x.row.shape.lowReg || x.reg == 0

/-- The addressing part. -/
def Insn.rmWf (c : SizeCtx) (x : Insn) : Bool :=
  if x.row.shape.modRm then x.rm.wf c.adsize else x.rm == Rm.absent

/-- The immediate-class part (R123). -/
def Insn.immWf (c : SizeCtx) (x : Insn) : Bool :=
  match x.row.shape.imm with
  | some k => decide (x.imm.toNat < 256 ^ k.bytes c)
  | none => x.imm == 0

/-- Whether a key has no row. -/
def Entry.isNull : Entry → Bool
  | .null => true
  | _ => false

/-- The row is the one its opcode bytes and register field select: 90 is nop without the prefix 66 and xchg with it (R168), the
register of 91 to 97 is not 0, the escape's row stands for a null T2 entry (R171), a dispatch entry's row for an absent digit (R134,
R175). -/
def Insn.rowWf (c : SizeCtx) (x : Insn) : Bool :=
  match x.row with
  | .nop90 => !c.opszSeen
  | .xchg66_90 => c.opszSeen
  | .xchg91 => x.reg != 0
  | .escape0F => (t2Entry x.imm.toNat).isNull
  | .dispatch80 => (tgRow (0x8000 + x.reg.toNat)).isNone
  | .dispatch81 => (tgRow (0x8100 + x.reg.toNat)).isNone
  | .dispatch82 => (tgRow (0x8200 + x.reg.toNat)).isNone
  | .dispatch83 => (tgRow (0x8300 + x.reg.toNat)).isNone
  | .dispatch8F => (tgRow (0x8F00 + x.reg.toNat)).isNone
  | .dispatchC0 => (tgRow (0xC000 + x.reg.toNat)).isNone
  | .dispatchC1 => (tgRow (0xC100 + x.reg.toNat)).isNone
  | .dispatchC6 => (tgRow (0xC600 + x.reg.toNat)).isNone
  | .dispatchC7 => (tgRow (0xC700 + x.reg.toNat)).isNone
  | .dispatchD0 => (tgRow (0xD000 + x.reg.toNat)).isNone
  | .dispatchD1 => (tgRow (0xD100 + x.reg.toNat)).isNone
  | .dispatchD2 => (tgRow (0xD200 + x.reg.toNat)).isNone
  | .dispatchD3 => (tgRow (0xD300 + x.reg.toNat)).isNone
  | .dispatchF6 => (tgRow (0xF600 + x.reg.toNat)).isNone
  | .dispatchF7 => (tgRow (0xF700 + x.reg.toNat)).isNone
  | .dispatchFE => (tgRow (0xFE00 + x.reg.toNat)).isNone
  | .dispatchFF => (tgRow (0xFF00 + x.reg.toNat)).isNone
  | .dispatch0F00 => (tgRow (0xF0000 + x.reg.toNat)).isNone
  | .dispatch0F01 => (tgRow (0xF0100 + x.reg.toNat)).isNone
  | .dispatch0FBA => (tgRow (0xFBA00 + x.reg.toNat)).isNone
  | .dispatch0FC7 => (tgRow (0xFC700 + x.reg.toNat)).isNone
  | _ => true

/-- A well-formed instruction: the checks above. -/
def Insn.wf (c : SizeCtx) (x : Insn) : Bool :=
  x.regWf && x.rmWf c && x.immWf c && x.rowWf c

end Sys2Proof
end

