-- ==== Sys2Proof/Claims.lean ====
section
/-! DEFINITION. The words the statements are written in: what the source supplies at POS, and the state that a row's DECODE ends in,
said field by field from the row's tags and the instruction's parts (not stage by stage, as the meanings do). -/

namespace Sys2Proof.Claims

open Sys2Proof.Machine

/-- The sizes under which the bytes at POS are read: the defaults, and the two seen flags of the DECODE in progress or none. -/
def sizesAt (s : State) : SizeCtx :=
  ⟨s.defOpsize, s.defAdsize, (enter s).di.opszSeen, (enter s).di.adszSeen⟩

/-- The defaults are word or long (10_state.md R51). -/
def SizesLegal (s : State) : Prop :=
  (s.defOpsize = .word ∨ s.defOpsize = .long) ∧ (s.defAdsize = .word ∨ s.defAdsize = .long)

/-- The source holds these bytes from POS on. -/
def Supplies (s : State) (bs : List Byte) : Prop := ∃ rest, s.remaining = bs ++ rest

/-- No DECODE is in progress: STATUS holds a value, or no DECODE has begun. -/
def Idle (s : State) : Prop := s.status.isSome = true ∨ s.di = none

/-- Where a row stands in the maps (30_encoding.md R116, R117, R128). -/
inductive Place where
  | t1 (b : Byte)
  | t1Reg (base : Byte)
  | t2 (b : Byte)
  | t2Reg (base : Byte)
  | tg1 (b : Byte) (digit : Nat)
  | tg2 (b : Byte) (digit : Nat)
  | xchg66
  deriving DecidableEq, Repr

/-- OPB: the last opcode byte (10_state.md R58), `r` being the register in it. -/
def Place.opb (r : BitVec 3) : Place → Byte
  | .t1 b => b
  | .t1Reg base => base + r.setWidth 8
  | .t2 b => b
  | .t2Reg base => base + r.setWidth 8
  | .tg1 b _ => b
  | .tg2 b _ => b
  | .xchg66 => 0x90

/-- OPKEY (R116, R117, R168). -/
def Place.key (r : BitVec 3) : Place → Nat
  | .t1 b => b.toNat
  | .t1Reg base => base.toNat + r.toNat
  | .t2 b => 0x0F00 + b.toNat
  | .t2Reg base => 0x0F00 + base.toNat + r.toNat
  | .tg1 b digit => b.toNat * 256 + digit
  | .tg2 b digit => (0x0F00 + b.toNat) * 256 + digit
  | .xchg66 => 0x90

/-- DESC (10_state.md R56). -/
def Place.ref (r : BitVec 3) (p : Place) : DescRef :=
  match p with
  | .t1 b => .t1 b
  | .t1Reg _ => .t1 (p.opb r)
  | .t2 b => .t2 b
  | .t2Reg _ => .t2 (p.opb r)
  | .tg1 _ _ => .tg (p.key r)
  | .tg2 _ _ => .tg (p.key r)
  | .xchg66 => .xchg66

/-- The code a tag writes into REG (30_encoding.md R124). -/
def regCode (opb : Byte) : Tag → Option (BitVec 3)
  | .al | .eax => some 0
  | .cl => some 1
  | .dx => some 2
  | .fs => some 4
  | .gs => some 5
  | .yb | .yv => some 7
  | .zb | .zv | .zd => some (BitVec.ofNat 3 (opb.toNat % 8))
  | .seg2 => some (BitVec.ofNat 3 (opb.toNat / 8 % 4))
  | _ => none

/-- The two's complement of an n-bit value in 32 bits. -/
def sext (n : Nat) (v : Word) : Word := BitVec.ofInt 32 (BitVec.ofNat n v.toNat).toInt

/-- A fixed-width immediate of n bits under FIXED_IMM_EXT. -/
def immExt (e : ImmExt) (n : Nat) (v : Word) : Word := if e = .sign then sext n v else v

/-- What a tag stores in IMM (30_encoding.md R123). -/
def immStored (e : ImmExt) (opsize : SizeClass) (v : Word) : Tag → Option Word
  | .ib => some (immExt e 8 v)
  | .iw => some (immExt e 16 v)
  | .il => some v
  | .iv => some (if opsize = .word then immExt e 16 v else v)
  | .ibs | .jb => some (sext 8 v)
  | .ov | .jv => some v
  | _ => none

/-- What a displacement of a size class stores in DISP (30_encoding.md R123). -/
def dispStored : SizeClass → Word → Word
  | .byte, v => sext 8 v
  | .word, v => sext 16 v
  | _, v => v

/-- A row of the forms tables: its constructor, its place, its descriptor. -/
structure RowSpec where
  row : Instr
  place : Place
  desc : Desc
  deriving DecidableEq, Repr

/-- The record after a successful DECODE of the instruction `x` of this row, `e` being the record the DECODE entered with. -/
def RowSpec.record (p : RowSpec) (c : SizeCtx) (ext : ImmExt) (x : Insn) (e : Di) : Di :=
  let modRm := x.row.shape.modRm
  let sib := modRm && hasSib c.adsize x.rm.mod x.rm.rm
  let cls := if modRm then dispClass c.adsize x.rm.mod x.rm.rm x.rm.sib.base else .none
  { pfx := e.pfx
    opszSeen := e.opszSeen
    adszSeen := e.adszSeen
    szovr := ⟨.none, p.desc.fixedOp⟩
    scale := if sib then 2 ^ x.rm.sib.code.toNat else e.scale
    dispSize := if cls = .none then e.dispSize else cls
    desc := some (p.place.ref x.reg)
    opkey := some (p.place.key x.reg)
    opb := some (p.place.opb x.reg)
    mod := if modRm then some x.rm.mod else e.mod
    reg := ((p.desc.tags.filterMap (regCode (p.place.opb x.reg))).getLast?).or (if modRm then some x.reg else e.reg)
    rm := if modRm then some x.rm.rm else e.rm
    index := if sib then some x.rm.sib.index else e.index
    base := if sib then some x.rm.sib.base else e.base
    disp := if cls = .none then e.disp else some (dispStored cls x.rm.disp)
    imm := ((p.desc.tags.filterMap (immStored ext c.opsize x.imm)).getLast?).or e.imm }

/-- The state after it: POS past the instruction's bytes, the record, STATUS = OK, the copy of the defaults; everything else as the
DECODE entered. -/
def RowSpec.after (p : RowSpec) (s : State) (x : Insn) : State :=
  { (enter s).ctx with
    pos := s.pos + (encode (sizesAt s) x).length
    di := some (p.record (sizesAt s) s.immExt x (enter s).di)
    status := some .ok
    fmtDefs := some (s.defOpsize, s.defAdsize) }

/-- The row decodes: over a source that supplies a well-formed instruction of the row, at every value of its parts, exec answers the
state above; and the table entry that DESC names is the row's descriptor. -/
def RowSpec.Decodes (p : RowSpec) : Prop :=
  ∀ (s : State) (x : Insn), x.row = p.row → x.wf (sizesAt s) = true → SizesLegal s →
    Supplies s (encode (sizesAt s) x) →
      (p.place.ref x.reg).resolve refTables Ref.xchg66_90 = some p.desc ∧ exec p.row s = .next (p.after s x)

/-- A state holds everything but POS, START, the record, STATUS, the copy of the defaults and the fault mark as another does: the
mode, the source, the tables, the parameters, the host's fields. -/
structure SameOutside (s t : State) : Prop where
  pe : t.pe = s.pe
  dflag : t.dflag = s.dflag
  defOpsize : t.defOpsize = s.defOpsize
  defAdsize : t.defAdsize = s.defAdsize
  src : t.src = s.src
  srcLen : t.srcLen = s.srcLen
  tables : t.tables = s.tables
  immExt : t.immExt = s.immExt
  vbase : t.vbase = s.vbase
  refusalMark : t.refusalMark = s.refusalMark
  requests : t.requests = s.requests
  reply : t.reply = s.reply
  setStatus : t.setStatus = s.setStatus

end Sys2Proof.Claims
end

