-- ==== Sys2Proof/Certificates/Slice0/Obligations.lean ====
section
/-! DEFINITION. The statements for the provers. The row lists below write the forms tables of 41_arith.md to 47_flags_misc.md and the
rows of opcode_table.json out once more: constructor, place, ID, FLAGS, FIXED_OP, tags, AT&T mnemonic. -/

namespace Sys2Proof.Claims

open Sys2Proof.Machine

/-- Part of the rows of 41_arith.md. -/
def arithRows0 : List RowSpec := [
  ⟨.add00, (.t1 0x00), (refDesc 1 0x5 .byte [.eb, .gb] "add")⟩,
  ⟨.add01, (.t1 0x01), (refDesc 1 0x1 .none [.ev, .gv] "add")⟩,
  ⟨.add02, (.t1 0x02), (refDesc 1 0x5 .byte [.gb, .eb] "add")⟩,
  ⟨.add03, (.t1 0x03), (refDesc 1 0x1 .none [.gv, .ev] "add")⟩,
  ⟨.add04, (.t1 0x04), (refDesc 1 0x4 .byte [.al, .ib] "add")⟩,
  ⟨.add05, (.t1 0x05), (refDesc 1 0x0 .none [.eax, .iv] "add")⟩,
  ⟨.or08, (.t1 0x08), (refDesc 2 0x5 .byte [.eb, .gb] "or")⟩,
  ⟨.or09, (.t1 0x09), (refDesc 2 0x1 .none [.ev, .gv] "or")⟩,
  ⟨.or0A, (.t1 0x0A), (refDesc 2 0x5 .byte [.gb, .eb] "or")⟩,
  ⟨.or0B, (.t1 0x0B), (refDesc 2 0x1 .none [.gv, .ev] "or")⟩,
  ⟨.or0C, (.t1 0x0C), (refDesc 2 0x4 .byte [.al, .ib] "or")⟩,
  ⟨.or0D, (.t1 0x0D), (refDesc 2 0x0 .none [.eax, .iv] "or")⟩,
  ⟨.adc10, (.t1 0x10), (refDesc 3 0x5 .byte [.eb, .gb] "adc")⟩,
  ⟨.adc11, (.t1 0x11), (refDesc 3 0x1 .none [.ev, .gv] "adc")⟩,
  ⟨.adc12, (.t1 0x12), (refDesc 3 0x5 .byte [.gb, .eb] "adc")⟩,
  ⟨.adc13, (.t1 0x13), (refDesc 3 0x1 .none [.gv, .ev] "adc")⟩,
  ⟨.adc14, (.t1 0x14), (refDesc 3 0x4 .byte [.al, .ib] "adc")⟩,
  ⟨.adc15, (.t1 0x15), (refDesc 3 0x0 .none [.eax, .iv] "adc")⟩,
  ⟨.sbb18, (.t1 0x18), (refDesc 4 0x5 .byte [.eb, .gb] "sbb")⟩,
  ⟨.sbb19, (.t1 0x19), (refDesc 4 0x1 .none [.ev, .gv] "sbb")⟩,
  ⟨.sbb1A, (.t1 0x1A), (refDesc 4 0x5 .byte [.gb, .eb] "sbb")⟩,
  ⟨.sbb1B, (.t1 0x1B), (refDesc 4 0x1 .none [.gv, .ev] "sbb")⟩,
  ⟨.sbb1C, (.t1 0x1C), (refDesc 4 0x4 .byte [.al, .ib] "sbb")⟩,
  ⟨.sbb1D, (.t1 0x1D), (refDesc 4 0x0 .none [.eax, .iv] "sbb")⟩,
  ⟨.and20, (.t1 0x20), (refDesc 5 0x5 .byte [.eb, .gb] "and")⟩,
  ⟨.and21, (.t1 0x21), (refDesc 5 0x1 .none [.ev, .gv] "and")⟩,
  ⟨.and22, (.t1 0x22), (refDesc 5 0x5 .byte [.gb, .eb] "and")⟩,
  ⟨.and23, (.t1 0x23), (refDesc 5 0x1 .none [.gv, .ev] "and")⟩,
  ⟨.and24, (.t1 0x24), (refDesc 5 0x4 .byte [.al, .ib] "and")⟩,
  ⟨.and25, (.t1 0x25), (refDesc 5 0x0 .none [.eax, .iv] "and")⟩,
  ⟨.sub28, (.t1 0x28), (refDesc 6 0x5 .byte [.eb, .gb] "sub")⟩,
  ⟨.sub29, (.t1 0x29), (refDesc 6 0x1 .none [.ev, .gv] "sub")⟩,
  ⟨.sub2A, (.t1 0x2A), (refDesc 6 0x5 .byte [.gb, .eb] "sub")⟩,
  ⟨.sub2B, (.t1 0x2B), (refDesc 6 0x1 .none [.gv, .ev] "sub")⟩,
  ⟨.sub2C, (.t1 0x2C), (refDesc 6 0x4 .byte [.al, .ib] "sub")⟩,
  ⟨.sub2D, (.t1 0x2D), (refDesc 6 0x0 .none [.eax, .iv] "sub")⟩,
  ⟨.xor30, (.t1 0x30), (refDesc 7 0x5 .byte [.eb, .gb] "xor")⟩,
  ⟨.xor31, (.t1 0x31), (refDesc 7 0x1 .none [.ev, .gv] "xor")⟩,
  ⟨.xor32, (.t1 0x32), (refDesc 7 0x5 .byte [.gb, .eb] "xor")⟩,
  ⟨.xor33, (.t1 0x33), (refDesc 7 0x1 .none [.gv, .ev] "xor")⟩]

/-- Part of the rows of 41_arith.md. -/
def arithRows1 : List RowSpec := [
  ⟨.xor34, (.t1 0x34), (refDesc 7 0x4 .byte [.al, .ib] "xor")⟩,
  ⟨.xor35, (.t1 0x35), (refDesc 7 0x0 .none [.eax, .iv] "xor")⟩,
  ⟨.cmp38, (.t1 0x38), (refDesc 8 0x5 .byte [.eb, .gb] "cmp")⟩,
  ⟨.cmp39, (.t1 0x39), (refDesc 8 0x1 .none [.ev, .gv] "cmp")⟩,
  ⟨.cmp3A, (.t1 0x3A), (refDesc 8 0x5 .byte [.gb, .eb] "cmp")⟩,
  ⟨.cmp3B, (.t1 0x3B), (refDesc 8 0x1 .none [.gv, .ev] "cmp")⟩,
  ⟨.cmp3C, (.t1 0x3C), (refDesc 8 0x4 .byte [.al, .ib] "cmp")⟩,
  ⟨.cmp3D, (.t1 0x3D), (refDesc 8 0x0 .none [.eax, .iv] "cmp")⟩,
  ⟨.daa27, (.t1 0x27), (refDesc 9 0x0 .none [] "daa")⟩,
  ⟨.das2F, (.t1 0x2F), (refDesc 10 0x0 .none [] "das")⟩,
  ⟨.aaa37, (.t1 0x37), (refDesc 11 0x0 .none [] "aaa")⟩,
  ⟨.aas3F, (.t1 0x3F), (refDesc 12 0x0 .none [] "aas")⟩,
  ⟨.inc40, (.t1Reg 0x40), (refDesc 13 0x0 .none [.zv] "inc")⟩,
  ⟨.dec48, (.t1Reg 0x48), (refDesc 14 0x0 .none [.zv] "dec")⟩,
  ⟨.imul69, (.t1 0x69), (refDesc 15 0x1 .none [.gv, .ev, .iv] "imul")⟩,
  ⟨.imul6B, (.t1 0x6B), (refDesc 15 0x1 .none [.gv, .ev, .ibs] "imul")⟩,
  ⟨.add80_0, (.tg1 0x80 0), (refDesc 1 0x15 .byte [.eb, .ib] "add")⟩,
  ⟨.or80_1, (.tg1 0x80 1), (refDesc 2 0x15 .byte [.eb, .ib] "or")⟩,
  ⟨.adc80_2, (.tg1 0x80 2), (refDesc 3 0x15 .byte [.eb, .ib] "adc")⟩,
  ⟨.sbb80_3, (.tg1 0x80 3), (refDesc 4 0x15 .byte [.eb, .ib] "sbb")⟩,
  ⟨.and80_4, (.tg1 0x80 4), (refDesc 5 0x15 .byte [.eb, .ib] "and")⟩,
  ⟨.sub80_5, (.tg1 0x80 5), (refDesc 6 0x15 .byte [.eb, .ib] "sub")⟩,
  ⟨.xor80_6, (.tg1 0x80 6), (refDesc 7 0x15 .byte [.eb, .ib] "xor")⟩,
  ⟨.cmp80_7, (.tg1 0x80 7), (refDesc 8 0x15 .byte [.eb, .ib] "cmp")⟩,
  ⟨.add81_0, (.tg1 0x81 0), (refDesc 1 0x11 .none [.ev, .iv] "add")⟩,
  ⟨.or81_1, (.tg1 0x81 1), (refDesc 2 0x11 .none [.ev, .iv] "or")⟩,
  ⟨.adc81_2, (.tg1 0x81 2), (refDesc 3 0x11 .none [.ev, .iv] "adc")⟩,
  ⟨.sbb81_3, (.tg1 0x81 3), (refDesc 4 0x11 .none [.ev, .iv] "sbb")⟩,
  ⟨.and81_4, (.tg1 0x81 4), (refDesc 5 0x11 .none [.ev, .iv] "and")⟩,
  ⟨.sub81_5, (.tg1 0x81 5), (refDesc 6 0x11 .none [.ev, .iv] "sub")⟩,
  ⟨.xor81_6, (.tg1 0x81 6), (refDesc 7 0x11 .none [.ev, .iv] "xor")⟩,
  ⟨.cmp81_7, (.tg1 0x81 7), (refDesc 8 0x11 .none [.ev, .iv] "cmp")⟩,
  ⟨.add82_0, (.tg1 0x82 0), (refDesc 1 0x15 .byte [.eb, .ib] "add")⟩,
  ⟨.or82_1, (.tg1 0x82 1), (refDesc 2 0x15 .byte [.eb, .ib] "or")⟩,
  ⟨.adc82_2, (.tg1 0x82 2), (refDesc 3 0x15 .byte [.eb, .ib] "adc")⟩,
  ⟨.sbb82_3, (.tg1 0x82 3), (refDesc 4 0x15 .byte [.eb, .ib] "sbb")⟩,
  ⟨.and82_4, (.tg1 0x82 4), (refDesc 5 0x15 .byte [.eb, .ib] "and")⟩,
  ⟨.sub82_5, (.tg1 0x82 5), (refDesc 6 0x15 .byte [.eb, .ib] "sub")⟩,
  ⟨.xor82_6, (.tg1 0x82 6), (refDesc 7 0x15 .byte [.eb, .ib] "xor")⟩,
  ⟨.cmp82_7, (.tg1 0x82 7), (refDesc 8 0x15 .byte [.eb, .ib] "cmp")⟩]

/-- Part of the rows of 41_arith.md. -/
def arithRows2 : List RowSpec := [
  ⟨.add83_0, (.tg1 0x83 0), (refDesc 1 0x11 .none [.ev, .ibs] "add")⟩,
  ⟨.or83_1, (.tg1 0x83 1), (refDesc 2 0x11 .none [.ev, .ibs] "or")⟩,
  ⟨.adc83_2, (.tg1 0x83 2), (refDesc 3 0x11 .none [.ev, .ibs] "adc")⟩,
  ⟨.sbb83_3, (.tg1 0x83 3), (refDesc 4 0x11 .none [.ev, .ibs] "sbb")⟩,
  ⟨.and83_4, (.tg1 0x83 4), (refDesc 5 0x11 .none [.ev, .ibs] "and")⟩,
  ⟨.sub83_5, (.tg1 0x83 5), (refDesc 6 0x11 .none [.ev, .ibs] "sub")⟩,
  ⟨.xor83_6, (.tg1 0x83 6), (refDesc 7 0x11 .none [.ev, .ibs] "xor")⟩,
  ⟨.cmp83_7, (.tg1 0x83 7), (refDesc 8 0x11 .none [.ev, .ibs] "cmp")⟩,
  ⟨.test84, (.t1 0x84), (refDesc 16 0x5 .byte [.eb, .gb] "test")⟩,
  ⟨.test85, (.t1 0x85), (refDesc 16 0x1 .none [.ev, .gv] "test")⟩,
  ⟨.testA8, (.t1 0xA8), (refDesc 16 0x4 .byte [.al, .ib] "test")⟩,
  ⟨.testA9, (.t1 0xA9), (refDesc 16 0x0 .none [.eax, .iv] "test")⟩,
  ⟨.aamD4, (.t1 0xD4), (refDesc 17 0x0 .none [.ib] "aam")⟩,
  ⟨.aadD5, (.t1 0xD5), (refDesc 18 0x0 .none [.ib] "aad")⟩,
  ⟨.testF6_0, (.tg1 0xF6 0), (refDesc 16 0x15 .byte [.eb, .ib] "test")⟩,
  ⟨.notF6_2, (.tg1 0xF6 2), (refDesc 19 0x15 .byte [.eb] "not")⟩,
  ⟨.negF6_3, (.tg1 0xF6 3), (refDesc 20 0x15 .byte [.eb] "neg")⟩,
  ⟨.mulF6_4, (.tg1 0xF6 4), (refDesc 21 0x15 .byte [.eb] "mul")⟩,
  ⟨.imulF6_5, (.tg1 0xF6 5), (refDesc 15 0x15 .byte [.eb] "imul")⟩,
  ⟨.divF6_6, (.tg1 0xF6 6), (refDesc 22 0x15 .byte [.eb] "div")⟩,
  ⟨.idivF6_7, (.tg1 0xF6 7), (refDesc 23 0x15 .byte [.eb] "idiv")⟩,
  ⟨.testF7_0, (.tg1 0xF7 0), (refDesc 16 0x11 .none [.ev, .iv] "test")⟩,
  ⟨.notF7_2, (.tg1 0xF7 2), (refDesc 19 0x11 .none [.ev] "not")⟩,
  ⟨.negF7_3, (.tg1 0xF7 3), (refDesc 20 0x11 .none [.ev] "neg")⟩,
  ⟨.mulF7_4, (.tg1 0xF7 4), (refDesc 21 0x11 .none [.ev] "mul")⟩,
  ⟨.imulF7_5, (.tg1 0xF7 5), (refDesc 15 0x11 .none [.ev] "imul")⟩,
  ⟨.divF7_6, (.tg1 0xF7 6), (refDesc 22 0x11 .none [.ev] "div")⟩,
  ⟨.idivF7_7, (.tg1 0xF7 7), (refDesc 23 0x11 .none [.ev] "idiv")⟩,
  ⟨.incFE_0, (.tg1 0xFE 0), (refDesc 13 0x15 .byte [.eb] "inc")⟩,
  ⟨.decFE_1, (.tg1 0xFE 1), (refDesc 14 0x15 .byte [.eb] "dec")⟩,
  ⟨.incFF_0, (.tg1 0xFF 0), (refDesc 13 0x11 .none [.ev] "inc")⟩,
  ⟨.decFF_1, (.tg1 0xFF 1), (refDesc 14 0x11 .none [.ev] "dec")⟩,
  ⟨.imul0FAF, (.t2 0xAF), (refDesc 15 0x1 .none [.gv, .ev] "imul")⟩,
  ⟨.cmpxchg0FB0, (.t2 0xB0), (refDesc 24 0x5 .byte [.eb, .gb] "cmpxchg")⟩,
  ⟨.cmpxchg0FB1, (.t2 0xB1), (refDesc 24 0x1 .none [.ev, .gv] "cmpxchg")⟩,
  ⟨.xadd0FC0, (.t2 0xC0), (refDesc 25 0x5 .byte [.eb, .gb] "xadd")⟩,
  ⟨.xadd0FC1, (.t2 0xC1), (refDesc 25 0x1 .none [.ev, .gv] "xadd")⟩,
  ⟨.cmpxchg8b0FC7_1, (.tg2 0xC7 1), (refDesc 26 0x1 .none [.m] "cmpxchg8b")⟩]

/-- The rows of 41_arith.md. -/
def arithRows : List RowSpec := arithRows0 ++ arithRows1 ++ arithRows2

/-- Part of the rows of 42_shift_bit.md. -/
def shiftBitRows0 : List RowSpec := [
  ⟨.rolC0_0, (.tg1 0xC0 0), (refDesc 27 0x15 .byte [.eb, .ib] "rol")⟩,
  ⟨.rorC0_1, (.tg1 0xC0 1), (refDesc 28 0x15 .byte [.eb, .ib] "ror")⟩,
  ⟨.rclC0_2, (.tg1 0xC0 2), (refDesc 29 0x15 .byte [.eb, .ib] "rcl")⟩,
  ⟨.rcrC0_3, (.tg1 0xC0 3), (refDesc 30 0x15 .byte [.eb, .ib] "rcr")⟩,
  ⟨.shlC0_4, (.tg1 0xC0 4), (refDesc 31 0x15 .byte [.eb, .ib] "shl")⟩,
  ⟨.shrC0_5, (.tg1 0xC0 5), (refDesc 32 0x15 .byte [.eb, .ib] "shr")⟩,
  ⟨.sarC0_7, (.tg1 0xC0 7), (refDesc 33 0x15 .byte [.eb, .ib] "sar")⟩,
  ⟨.rolC1_0, (.tg1 0xC1 0), (refDesc 27 0x11 .none [.ev, .ib] "rol")⟩,
  ⟨.rorC1_1, (.tg1 0xC1 1), (refDesc 28 0x11 .none [.ev, .ib] "ror")⟩,
  ⟨.rclC1_2, (.tg1 0xC1 2), (refDesc 29 0x11 .none [.ev, .ib] "rcl")⟩,
  ⟨.rcrC1_3, (.tg1 0xC1 3), (refDesc 30 0x11 .none [.ev, .ib] "rcr")⟩,
  ⟨.shlC1_4, (.tg1 0xC1 4), (refDesc 31 0x11 .none [.ev, .ib] "shl")⟩,
  ⟨.shrC1_5, (.tg1 0xC1 5), (refDesc 32 0x11 .none [.ev, .ib] "shr")⟩,
  ⟨.sarC1_7, (.tg1 0xC1 7), (refDesc 33 0x11 .none [.ev, .ib] "sar")⟩,
  ⟨.rolD0_0, (.tg1 0xD0 0), (refDesc 27 0x15 .byte [.eb] "rol")⟩,
  ⟨.rorD0_1, (.tg1 0xD0 1), (refDesc 28 0x15 .byte [.eb] "ror")⟩,
  ⟨.rclD0_2, (.tg1 0xD0 2), (refDesc 29 0x15 .byte [.eb] "rcl")⟩,
  ⟨.rcrD0_3, (.tg1 0xD0 3), (refDesc 30 0x15 .byte [.eb] "rcr")⟩,
  ⟨.shlD0_4, (.tg1 0xD0 4), (refDesc 31 0x15 .byte [.eb] "shl")⟩,
  ⟨.shrD0_5, (.tg1 0xD0 5), (refDesc 32 0x15 .byte [.eb] "shr")⟩,
  ⟨.sarD0_7, (.tg1 0xD0 7), (refDesc 33 0x15 .byte [.eb] "sar")⟩,
  ⟨.rolD1_0, (.tg1 0xD1 0), (refDesc 27 0x11 .none [.ev] "rol")⟩,
  ⟨.rorD1_1, (.tg1 0xD1 1), (refDesc 28 0x11 .none [.ev] "ror")⟩,
  ⟨.rclD1_2, (.tg1 0xD1 2), (refDesc 29 0x11 .none [.ev] "rcl")⟩,
  ⟨.rcrD1_3, (.tg1 0xD1 3), (refDesc 30 0x11 .none [.ev] "rcr")⟩,
  ⟨.shlD1_4, (.tg1 0xD1 4), (refDesc 31 0x11 .none [.ev] "shl")⟩,
  ⟨.shrD1_5, (.tg1 0xD1 5), (refDesc 32 0x11 .none [.ev] "shr")⟩,
  ⟨.sarD1_7, (.tg1 0xD1 7), (refDesc 33 0x11 .none [.ev] "sar")⟩,
  ⟨.rolD2_0, (.tg1 0xD2 0), (refDesc 27 0x15 .byte [.eb, .cl] "rol")⟩,
  ⟨.rorD2_1, (.tg1 0xD2 1), (refDesc 28 0x15 .byte [.eb, .cl] "ror")⟩,
  ⟨.rclD2_2, (.tg1 0xD2 2), (refDesc 29 0x15 .byte [.eb, .cl] "rcl")⟩,
  ⟨.rcrD2_3, (.tg1 0xD2 3), (refDesc 30 0x15 .byte [.eb, .cl] "rcr")⟩,
  ⟨.shlD2_4, (.tg1 0xD2 4), (refDesc 31 0x15 .byte [.eb, .cl] "shl")⟩,
  ⟨.shrD2_5, (.tg1 0xD2 5), (refDesc 32 0x15 .byte [.eb, .cl] "shr")⟩,
  ⟨.sarD2_7, (.tg1 0xD2 7), (refDesc 33 0x15 .byte [.eb, .cl] "sar")⟩,
  ⟨.rolD3_0, (.tg1 0xD3 0), (refDesc 27 0x11 .none [.ev, .cl] "rol")⟩,
  ⟨.rorD3_1, (.tg1 0xD3 1), (refDesc 28 0x11 .none [.ev, .cl] "ror")⟩,
  ⟨.rclD3_2, (.tg1 0xD3 2), (refDesc 29 0x11 .none [.ev, .cl] "rcl")⟩,
  ⟨.rcrD3_3, (.tg1 0xD3 3), (refDesc 30 0x11 .none [.ev, .cl] "rcr")⟩,
  ⟨.shlD3_4, (.tg1 0xD3 4), (refDesc 31 0x11 .none [.ev, .cl] "shl")⟩]

/-- Part of the rows of 42_shift_bit.md. -/
def shiftBitRows1 : List RowSpec := [
  ⟨.shrD3_5, (.tg1 0xD3 5), (refDesc 32 0x11 .none [.ev, .cl] "shr")⟩,
  ⟨.sarD3_7, (.tg1 0xD3 7), (refDesc 33 0x11 .none [.ev, .cl] "sar")⟩,
  ⟨.seto0F90, (.t2 0x90), (refDesc 34 0x5 .byte [.eb] "seto")⟩,
  ⟨.setno0F91, (.t2 0x91), (refDesc 35 0x5 .byte [.eb] "setno")⟩,
  ⟨.setb0F92, (.t2 0x92), (refDesc 36 0x5 .byte [.eb] "setb")⟩,
  ⟨.setae0F93, (.t2 0x93), (refDesc 37 0x5 .byte [.eb] "setae")⟩,
  ⟨.sete0F94, (.t2 0x94), (refDesc 38 0x5 .byte [.eb] "sete")⟩,
  ⟨.setne0F95, (.t2 0x95), (refDesc 39 0x5 .byte [.eb] "setne")⟩,
  ⟨.setbe0F96, (.t2 0x96), (refDesc 40 0x5 .byte [.eb] "setbe")⟩,
  ⟨.seta0F97, (.t2 0x97), (refDesc 41 0x5 .byte [.eb] "seta")⟩,
  ⟨.sets0F98, (.t2 0x98), (refDesc 42 0x5 .byte [.eb] "sets")⟩,
  ⟨.setns0F99, (.t2 0x99), (refDesc 43 0x5 .byte [.eb] "setns")⟩,
  ⟨.setp0F9A, (.t2 0x9A), (refDesc 44 0x5 .byte [.eb] "setp")⟩,
  ⟨.setnp0F9B, (.t2 0x9B), (refDesc 45 0x5 .byte [.eb] "setnp")⟩,
  ⟨.setl0F9C, (.t2 0x9C), (refDesc 46 0x5 .byte [.eb] "setl")⟩,
  ⟨.setge0F9D, (.t2 0x9D), (refDesc 47 0x5 .byte [.eb] "setge")⟩,
  ⟨.setle0F9E, (.t2 0x9E), (refDesc 48 0x5 .byte [.eb] "setle")⟩,
  ⟨.setg0F9F, (.t2 0x9F), (refDesc 49 0x5 .byte [.eb] "setg")⟩,
  ⟨.bt0FA3, (.t2 0xA3), (refDesc 50 0x1 .none [.ev, .gv] "bt")⟩,
  ⟨.shld0FA4, (.t2 0xA4), (refDesc 51 0x1 .none [.ev, .gv, .ib] "shld")⟩,
  ⟨.bts0FAB, (.t2 0xAB), (refDesc 52 0x1 .none [.ev, .gv] "bts")⟩,
  ⟨.shrd0FAC, (.t2 0xAC), (refDesc 53 0x1 .none [.ev, .gv, .ib] "shrd")⟩,
  ⟨.btr0FB3, (.t2 0xB3), (refDesc 54 0x1 .none [.ev, .gv] "btr")⟩,
  ⟨.bt0FBA_4, (.tg2 0xBA 4), (refDesc 50 0x11 .none [.ev, .ib] "bt")⟩,
  ⟨.bts0FBA_5, (.tg2 0xBA 5), (refDesc 52 0x11 .none [.ev, .ib] "bts")⟩,
  ⟨.btr0FBA_6, (.tg2 0xBA 6), (refDesc 54 0x11 .none [.ev, .ib] "btr")⟩,
  ⟨.btc0FBA_7, (.tg2 0xBA 7), (refDesc 55 0x11 .none [.ev, .ib] "btc")⟩,
  ⟨.btc0FBB, (.t2 0xBB), (refDesc 55 0x1 .none [.ev, .gv] "btc")⟩,
  ⟨.bsf0FBC, (.t2 0xBC), (refDesc 56 0x1 .none [.gv, .ev] "bsf")⟩,
  ⟨.bsr0FBD, (.t2 0xBD), (refDesc 57 0x1 .none [.gv, .ev] "bsr")⟩,
  ⟨.bswap0FC8, (.t2Reg 0xC8), (refDesc 58 0x0 .none [.zd] "bswap")⟩]

/-- The rows of 42_shift_bit.md. -/
def shiftBitRows : List RowSpec := shiftBitRows0 ++ shiftBitRows1

/-- Part of the rows of 43_move_stack.md. -/
def moveStackRows0 : List RowSpec := [
  ⟨.push06, (.t1 0x06), (refDesc 59 0x0 .none [.seg2] "push")⟩,
  ⟨.push0E, (.t1 0x0E), (refDesc 59 0x0 .none [.seg2] "push")⟩,
  ⟨.push16, (.t1 0x16), (refDesc 59 0x0 .none [.seg2] "push")⟩,
  ⟨.push1E, (.t1 0x1E), (refDesc 59 0x0 .none [.seg2] "push")⟩,
  ⟨.pop07, (.t1 0x07), (refDesc 60 0x0 .none [.seg2] "pop")⟩,
  ⟨.pop17, (.t1 0x17), (refDesc 60 0x0 .none [.seg2] "pop")⟩,
  ⟨.pop1F, (.t1 0x1F), (refDesc 60 0x0 .none [.seg2] "pop")⟩,
  ⟨.push50, (.t1Reg 0x50), (refDesc 59 0x0 .none [.zv] "push")⟩,
  ⟨.pop58, (.t1Reg 0x58), (refDesc 60 0x0 .none [.zv] "pop")⟩,
  ⟨.pusha60, (.t1 0x60), (refDesc 61 0x0 .none [] "pusha" (some "pushaw"))⟩,
  ⟨.popa61, (.t1 0x61), (refDesc 62 0x0 .none [] "popa" (some "popaw"))⟩,
  ⟨.push68, (.t1 0x68), (refDesc 59 0x0 .none [.iv] "push")⟩,
  ⟨.push6A, (.t1 0x6A), (refDesc 59 0x0 .none [.ibs] "push")⟩,
  ⟨.xchg86, (.t1 0x86), (refDesc 63 0x5 .byte [.eb, .gb] "xchg")⟩,
  ⟨.xchg87, (.t1 0x87), (refDesc 63 0x1 .none [.ev, .gv] "xchg")⟩,
  ⟨.mov88, (.t1 0x88), (refDesc 64 0x5 .byte [.eb, .gb] "mov")⟩,
  ⟨.mov89, (.t1 0x89), (refDesc 64 0x1 .none [.ev, .gv] "mov")⟩,
  ⟨.mov8A, (.t1 0x8A), (refDesc 64 0x5 .byte [.gb, .eb] "mov")⟩,
  ⟨.mov8B, (.t1 0x8B), (refDesc 64 0x1 .none [.gv, .ev] "mov")⟩,
  ⟨.mov8C, (.t1 0x8C), (refDesc 64 0x1 .none [.ev, .sw] "mov")⟩,
  ⟨.lea8D, (.t1 0x8D), (refDesc 65 0x1 .none [.gv, .m] "lea")⟩,
  ⟨.mov8E, (.t1 0x8E), (refDesc 64 0x1 .none [.sw, .ev] "mov")⟩,
  ⟨.pop8F_0, (.tg1 0x8F 0), (refDesc 60 0x11 .none [.ev] "pop")⟩,
  ⟨.xchg91, (.t1Reg 0x90), (refDesc 63 0x0 .none [.eax, .zv] "xchg")⟩,
  ⟨.cwde98, (.t1 0x98), (refDesc 66 0x0 .none [] "cwtl" (some "cbtw"))⟩,
  ⟨.cdq99, (.t1 0x99), (refDesc 67 0x0 .none [] "cltd" (some "cwtd"))⟩,
  ⟨.movA0, (.t1 0xA0), (refDesc 64 0x4 .byte [.al, .ov] "mov")⟩,
  ⟨.movA1, (.t1 0xA1), (refDesc 64 0x0 .none [.eax, .ov] "mov")⟩,
  ⟨.movA2, (.t1 0xA2), (refDesc 64 0x4 .byte [.ov, .al] "mov")⟩,
  ⟨.movA3, (.t1 0xA3), (refDesc 64 0x0 .none [.ov, .eax] "mov")⟩,
  ⟨.movB0, (.t1Reg 0xB0), (refDesc 64 0x4 .byte [.zb, .ib] "mov")⟩,
  ⟨.movB8, (.t1Reg 0xB8), (refDesc 64 0x0 .none [.zv, .iv] "mov")⟩,
  ⟨.lesC4, (.t1 0xC4), (refDesc 68 0x1 .none [.gv, .m] "les")⟩,
  ⟨.ldsC5, (.t1 0xC5), (refDesc 69 0x1 .none [.gv, .m] "lds")⟩,
  ⟨.movC6_0, (.tg1 0xC6 0), (refDesc 64 0x15 .byte [.eb, .ib] "mov")⟩,
  ⟨.movC7_0, (.tg1 0xC7 0), (refDesc 64 0x11 .none [.ev, .iv] "mov")⟩,
  ⟨.leaveC9, (.t1 0xC9), (refDesc 70 0x0 .none [] "leave")⟩,
  ⟨.xlatD7, (.t1 0xD7), (refDesc 71 0x0 .none [] "xlat")⟩,
  ⟨.pushFF_6, (.tg1 0xFF 6), (refDesc 59 0x11 .none [.ev] "push")⟩,
  ⟨.cmovo0F40, (.t2 0x40), (refDesc 72 0x1 .none [.gv, .ev] "cmovo")⟩]

/-- Part of the rows of 43_move_stack.md. -/
def moveStackRows1 : List RowSpec := [
  ⟨.cmovno0F41, (.t2 0x41), (refDesc 73 0x1 .none [.gv, .ev] "cmovno")⟩,
  ⟨.cmovb0F42, (.t2 0x42), (refDesc 74 0x1 .none [.gv, .ev] "cmovb")⟩,
  ⟨.cmovae0F43, (.t2 0x43), (refDesc 75 0x1 .none [.gv, .ev] "cmovae")⟩,
  ⟨.cmove0F44, (.t2 0x44), (refDesc 76 0x1 .none [.gv, .ev] "cmove")⟩,
  ⟨.cmovne0F45, (.t2 0x45), (refDesc 77 0x1 .none [.gv, .ev] "cmovne")⟩,
  ⟨.cmovbe0F46, (.t2 0x46), (refDesc 78 0x1 .none [.gv, .ev] "cmovbe")⟩,
  ⟨.cmova0F47, (.t2 0x47), (refDesc 79 0x1 .none [.gv, .ev] "cmova")⟩,
  ⟨.cmovs0F48, (.t2 0x48), (refDesc 80 0x1 .none [.gv, .ev] "cmovs")⟩,
  ⟨.cmovns0F49, (.t2 0x49), (refDesc 81 0x1 .none [.gv, .ev] "cmovns")⟩,
  ⟨.cmovp0F4A, (.t2 0x4A), (refDesc 82 0x1 .none [.gv, .ev] "cmovp")⟩,
  ⟨.cmovnp0F4B, (.t2 0x4B), (refDesc 83 0x1 .none [.gv, .ev] "cmovnp")⟩,
  ⟨.cmovl0F4C, (.t2 0x4C), (refDesc 84 0x1 .none [.gv, .ev] "cmovl")⟩,
  ⟨.cmovge0F4D, (.t2 0x4D), (refDesc 85 0x1 .none [.gv, .ev] "cmovge")⟩,
  ⟨.cmovle0F4E, (.t2 0x4E), (refDesc 86 0x1 .none [.gv, .ev] "cmovle")⟩,
  ⟨.cmovg0F4F, (.t2 0x4F), (refDesc 87 0x1 .none [.gv, .ev] "cmovg")⟩,
  ⟨.push0FA0, (.t2 0xA0), (refDesc 59 0x0 .none [.fs] "push")⟩,
  ⟨.pop0FA1, (.t2 0xA1), (refDesc 60 0x0 .none [.fs] "pop")⟩,
  ⟨.push0FA8, (.t2 0xA8), (refDesc 59 0x0 .none [.gs] "push")⟩,
  ⟨.pop0FA9, (.t2 0xA9), (refDesc 60 0x0 .none [.gs] "pop")⟩,
  ⟨.lss0FB2, (.t2 0xB2), (refDesc 88 0x1 .none [.gv, .m] "lss")⟩,
  ⟨.lfs0FB4, (.t2 0xB4), (refDesc 89 0x1 .none [.gv, .m] "lfs")⟩,
  ⟨.lgs0FB5, (.t2 0xB5), (refDesc 90 0x1 .none [.gv, .m] "lgs")⟩,
  ⟨.movzx0FB6, (.t2 0xB6), (refDesc 91 0x1 .none [.gv, .eb] "movzbl" (some "movzbw"))⟩,
  ⟨.movzx0FB7, (.t2 0xB7), (refDesc 91 0x1 .none [.gv, .ew] "movzwl" (some "movzww"))⟩,
  ⟨.movsx0FBE, (.t2 0xBE), (refDesc 92 0x1 .none [.gv, .eb] "movsbl" (some "movsbw"))⟩,
  ⟨.movsx0FBF, (.t2 0xBF), (refDesc 92 0x1 .none [.gv, .ew] "movswl" (some "movsww"))⟩,
  ⟨.xchg66_90, .xchg66, (refDesc 63 0x0 .none [.eax, .zv] "xchg")⟩]

/-- The rows of 43_move_stack.md. -/
def moveStackRows : List RowSpec := moveStackRows0 ++ moveStackRows1

/-- Part of the rows of 44_control.md. -/
def controlRows0 : List RowSpec := [
  ⟨.jo70, (.t1 0x70), (refDesc 93 0x0 .none [.jb] "jo")⟩,
  ⟨.jno71, (.t1 0x71), (refDesc 94 0x0 .none [.jb] "jno")⟩,
  ⟨.jb72, (.t1 0x72), (refDesc 95 0x0 .none [.jb] "jb")⟩,
  ⟨.jae73, (.t1 0x73), (refDesc 96 0x0 .none [.jb] "jae")⟩,
  ⟨.je74, (.t1 0x74), (refDesc 97 0x0 .none [.jb] "je")⟩,
  ⟨.jne75, (.t1 0x75), (refDesc 98 0x0 .none [.jb] "jne")⟩,
  ⟨.jbe76, (.t1 0x76), (refDesc 99 0x0 .none [.jb] "jbe")⟩,
  ⟨.ja77, (.t1 0x77), (refDesc 100 0x0 .none [.jb] "ja")⟩,
  ⟨.js78, (.t1 0x78), (refDesc 101 0x0 .none [.jb] "js")⟩,
  ⟨.jns79, (.t1 0x79), (refDesc 102 0x0 .none [.jb] "jns")⟩,
  ⟨.jp7A, (.t1 0x7A), (refDesc 103 0x0 .none [.jb] "jp")⟩,
  ⟨.jnp7B, (.t1 0x7B), (refDesc 104 0x0 .none [.jb] "jnp")⟩,
  ⟨.jl7C, (.t1 0x7C), (refDesc 105 0x0 .none [.jb] "jl")⟩,
  ⟨.jge7D, (.t1 0x7D), (refDesc 106 0x0 .none [.jb] "jge")⟩,
  ⟨.jle7E, (.t1 0x7E), (refDesc 107 0x0 .none [.jb] "jle")⟩,
  ⟨.jg7F, (.t1 0x7F), (refDesc 108 0x0 .none [.jb] "jg")⟩,
  ⟨.retC2, (.t1 0xC2), (refDesc 109 0x0 .none [.iw] "ret")⟩,
  ⟨.retC3, (.t1 0xC3), (refDesc 109 0x0 .none [] "ret")⟩,
  ⟨.retfCA, (.t1 0xCA), (refDesc 110 0x0 .none [.iw] "lret")⟩,
  ⟨.retfCB, (.t1 0xCB), (refDesc 110 0x0 .none [] "lret")⟩,
  ⟨.int3CC, (.t1 0xCC), (refDesc 111 0x0 .none [] "int3")⟩,
  ⟨.intCD, (.t1 0xCD), (refDesc 112 0x0 .none [.ib] "int")⟩,
  ⟨.intoCE, (.t1 0xCE), (refDesc 113 0x0 .none [] "into")⟩,
  ⟨.iretCF, (.t1 0xCF), (refDesc 114 0x0 .none [] "iret" (some "iretw"))⟩,
  ⟨.loopneE0, (.t1 0xE0), (refDesc 115 0x0 .none [.jb] "loopne")⟩,
  ⟨.loopeE1, (.t1 0xE1), (refDesc 116 0x0 .none [.jb] "loope")⟩,
  ⟨.loopE2, (.t1 0xE2), (refDesc 117 0x0 .none [.jb] "loop")⟩,
  ⟨.jecxzE3, (.t1 0xE3), (refDesc 118 0x0 .none [.jb] "jecxz" (some "jcxz") .address)⟩,
  ⟨.callE8, (.t1 0xE8), (refDesc 119 0x0 .none [.jv] "call")⟩,
  ⟨.jmpE9, (.t1 0xE9), (refDesc 120 0x0 .none [.jv] "jmp")⟩,
  ⟨.jmpEB, (.t1 0xEB), (refDesc 120 0x0 .none [.jb] "jmp")⟩,
  ⟨.callFF_2, (.tg1 0xFF 2), (refDesc 119 0x41 .none [.ev] "call")⟩,
  ⟨.callfFF_3, (.tg1 0xFF 3), (refDesc 121 0x41 .none [.m] "lcall")⟩,
  ⟨.jmpFF_4, (.tg1 0xFF 4), (refDesc 120 0x41 .none [.ev] "jmp")⟩,
  ⟨.jmpfFF_5, (.tg1 0xFF 5), (refDesc 122 0x41 .none [.m] "ljmp")⟩,
  ⟨.jo0F80, (.t2 0x80), (refDesc 93 0x0 .none [.jv] "jo")⟩,
  ⟨.jno0F81, (.t2 0x81), (refDesc 94 0x0 .none [.jv] "jno")⟩,
  ⟨.jb0F82, (.t2 0x82), (refDesc 95 0x0 .none [.jv] "jb")⟩,
  ⟨.jae0F83, (.t2 0x83), (refDesc 96 0x0 .none [.jv] "jae")⟩,
  ⟨.je0F84, (.t2 0x84), (refDesc 97 0x0 .none [.jv] "je")⟩]

/-- Part of the rows of 44_control.md. -/
def controlRows1 : List RowSpec := [
  ⟨.jne0F85, (.t2 0x85), (refDesc 98 0x0 .none [.jv] "jne")⟩,
  ⟨.jbe0F86, (.t2 0x86), (refDesc 99 0x0 .none [.jv] "jbe")⟩,
  ⟨.ja0F87, (.t2 0x87), (refDesc 100 0x0 .none [.jv] "ja")⟩,
  ⟨.js0F88, (.t2 0x88), (refDesc 101 0x0 .none [.jv] "js")⟩,
  ⟨.jns0F89, (.t2 0x89), (refDesc 102 0x0 .none [.jv] "jns")⟩,
  ⟨.jp0F8A, (.t2 0x8A), (refDesc 103 0x0 .none [.jv] "jp")⟩,
  ⟨.jnp0F8B, (.t2 0x8B), (refDesc 104 0x0 .none [.jv] "jnp")⟩,
  ⟨.jl0F8C, (.t2 0x8C), (refDesc 105 0x0 .none [.jv] "jl")⟩,
  ⟨.jge0F8D, (.t2 0x8D), (refDesc 106 0x0 .none [.jv] "jge")⟩,
  ⟨.jle0F8E, (.t2 0x8E), (refDesc 107 0x0 .none [.jv] "jle")⟩,
  ⟨.jg0F8F, (.t2 0x8F), (refDesc 108 0x0 .none [.jv] "jg")⟩]

/-- The rows of 44_control.md. -/
def controlRows : List RowSpec := controlRows0 ++ controlRows1

/-- The rows of 45_string_io.md. -/
def stringIoRows : List RowSpec := [
  ⟨.ins6C, (.t1 0x6C), (refDesc 123 0x24 .byte [.yb, .dx] "ins" none .operand .string)⟩,
  ⟨.ins6D, (.t1 0x6D), (refDesc 123 0x20 .none [.yv, .dx] "ins" none .operand .string)⟩,
  ⟨.outs6E, (.t1 0x6E), (refDesc 124 0x24 .byte [.dx, .xb] "outs" none .operand .string)⟩,
  ⟨.outs6F, (.t1 0x6F), (refDesc 124 0x20 .none [.dx, .xv] "outs" none .operand .string)⟩,
  ⟨.movsA4, (.t1 0xA4), (refDesc 125 0x24 .byte [.yb, .xb] "movs" none .operand .string)⟩,
  ⟨.movsA5, (.t1 0xA5), (refDesc 125 0x20 .none [.yv, .xv] "movs" none .operand .string)⟩,
  ⟨.cmpsA6, (.t1 0xA6), (refDesc 126 0x24 .byte [.xb, .yb] "cmps" none .operand .string)⟩,
  ⟨.cmpsA7, (.t1 0xA7), (refDesc 126 0x20 .none [.xv, .yv] "cmps" none .operand .string)⟩,
  ⟨.stosAA, (.t1 0xAA), (refDesc 127 0x24 .byte [.yb, .al] "stos" none .operand .string)⟩,
  ⟨.stosAB, (.t1 0xAB), (refDesc 127 0x20 .none [.yv, .eax] "stos" none .operand .string)⟩,
  ⟨.lodsAC, (.t1 0xAC), (refDesc 128 0x24 .byte [.al, .xb] "lods" none .operand .string)⟩,
  ⟨.lodsAD, (.t1 0xAD), (refDesc 128 0x20 .none [.eax, .xv] "lods" none .operand .string)⟩,
  ⟨.scasAE, (.t1 0xAE), (refDesc 129 0x24 .byte [.al, .yb] "scas" none .operand .string)⟩,
  ⟨.scasAF, (.t1 0xAF), (refDesc 129 0x20 .none [.eax, .yv] "scas" none .operand .string)⟩,
  ⟨.inE4, (.t1 0xE4), (refDesc 130 0x4 .byte [.al, .ib] "in")⟩,
  ⟨.inE5, (.t1 0xE5), (refDesc 130 0x0 .none [.eax, .ib] "in")⟩,
  ⟨.outE6, (.t1 0xE6), (refDesc 131 0x4 .byte [.ib, .al] "out")⟩,
  ⟨.outE7, (.t1 0xE7), (refDesc 131 0x0 .none [.ib, .eax] "out")⟩,
  ⟨.inEC, (.t1 0xEC), (refDesc 130 0x4 .byte [.al, .dx] "in")⟩,
  ⟨.inED, (.t1 0xED), (refDesc 130 0x0 .none [.eax, .dx] "in")⟩,
  ⟨.outEE, (.t1 0xEE), (refDesc 131 0x4 .byte [.dx, .al] "out")⟩,
  ⟨.outEF, (.t1 0xEF), (refDesc 131 0x0 .none [.dx, .eax] "out")⟩]

/-- The rows of 46_system.md. -/
def systemRows : List RowSpec := [
  ⟨.bound62, (.t1 0x62), (refDesc 132 0x1 .none [.gv, .m] "bound")⟩,
  ⟨.arpl63, (.t1 0x63), (refDesc 133 0x1 .none [.ew, .gw] "arpl")⟩,
  ⟨.hltF4, (.t1 0xF4), (refDesc 134 0x0 .none [] "hlt")⟩,
  ⟨.cliFA, (.t1 0xFA), (refDesc 135 0x0 .none [] "cli")⟩,
  ⟨.stiFB, (.t1 0xFB), (refDesc 136 0x0 .none [] "sti")⟩,
  ⟨.sldt0F00_0, (.tg2 0x00 0), (refDesc 137 0x1 .none [.ew] "sldt")⟩,
  ⟨.str0F00_1, (.tg2 0x00 1), (refDesc 138 0x1 .none [.ew] "str")⟩,
  ⟨.lldt0F00_2, (.tg2 0x00 2), (refDesc 139 0x1 .none [.ew] "lldt")⟩,
  ⟨.ltr0F00_3, (.tg2 0x00 3), (refDesc 140 0x1 .none [.ew] "ltr")⟩,
  ⟨.verr0F00_4, (.tg2 0x00 4), (refDesc 141 0x1 .none [.ew] "verr")⟩,
  ⟨.verw0F00_5, (.tg2 0x00 5), (refDesc 142 0x1 .none [.ew] "verw")⟩,
  ⟨.sgdt0F01_0, (.tg2 0x01 0), (refDesc 143 0x21 .none [.m] "sgdt" none .operand .dtab)⟩,
  ⟨.sidt0F01_1, (.tg2 0x01 1), (refDesc 144 0x21 .none [.m] "sidt" none .operand .dtab)⟩,
  ⟨.lgdt0F01_2, (.tg2 0x01 2), (refDesc 145 0x31 .none [.m] "lgdt" none .operand .dtab)⟩,
  ⟨.lidt0F01_3, (.tg2 0x01 3), (refDesc 146 0x31 .none [.m] "lidt" none .operand .dtab)⟩,
  ⟨.smsw0F01_4, (.tg2 0x01 4), (refDesc 147 0x1 .none [.ew] "smsw")⟩,
  ⟨.lmsw0F01_6, (.tg2 0x01 6), (refDesc 148 0x1 .none [.ew] "lmsw")⟩,
  ⟨.invlpg0F01_7, (.tg2 0x01 7), (refDesc 149 0x1 .none [.m] "invlpg")⟩,
  ⟨.lar0F02, (.t2 0x02), (refDesc 150 0x1 .none [.gv, .ew] "lar")⟩,
  ⟨.lsl0F03, (.t2 0x03), (refDesc 151 0x1 .none [.gv, .ew] "lsl")⟩,
  ⟨.clts0F06, (.t2 0x06), (refDesc 152 0x0 .none [] "clts")⟩,
  ⟨.invd0F08, (.t2 0x08), (refDesc 153 0x0 .none [] "invd")⟩,
  ⟨.wbinvd0F09, (.t2 0x09), (refDesc 154 0x0 .none [] "wbinvd")⟩,
  ⟨.ud20F0B, (.t2 0x0B), (refDesc 155 0x0 .none [] "ud2")⟩,
  ⟨.movCr0F20, (.t2 0x20), (refDesc 156 0x1 .none [.rd, .cr] "mov")⟩,
  ⟨.movDr0F21, (.t2 0x21), (refDesc 157 0x1 .none [.rd, .dr] "mov")⟩,
  ⟨.movCr0F22, (.t2 0x22), (refDesc 156 0x1 .none [.cr, .rd] "mov")⟩,
  ⟨.movDr0F23, (.t2 0x23), (refDesc 157 0x1 .none [.dr, .rd] "mov")⟩,
  ⟨.wrmsr0F30, (.t2 0x30), (refDesc 158 0x0 .none [] "wrmsr")⟩,
  ⟨.rdtsc0F31, (.t2 0x31), (refDesc 159 0x0 .none [] "rdtsc")⟩,
  ⟨.rdmsr0F32, (.t2 0x32), (refDesc 160 0x0 .none [] "rdmsr")⟩,
  ⟨.rdpmc0F33, (.t2 0x33), (refDesc 161 0x0 .none [] "rdpmc")⟩,
  ⟨.sysenter0F34, (.t2 0x34), (refDesc 162 0x0 .none [] "sysenter")⟩,
  ⟨.sysexit0F35, (.t2 0x35), (refDesc 163 0x0 .none [] "sysexit")⟩,
  ⟨.cpuid0FA2, (.t2 0xA2), (refDesc 164 0x0 .none [] "cpuid")⟩,
  ⟨.rsm0FAA, (.t2 0xAA), (refDesc 165 0x0 .none [] "rsm")⟩]

/-- The rows of 47_flags_misc.md. -/
def flagsMiscRows : List RowSpec := [
  ⟨.nop90, (.t1 0x90), (refDesc 166 0x0 .none [] "nop")⟩,
  ⟨.fwait9B, (.t1 0x9B), (refDesc 167 0x0 .none [] "fwait")⟩,
  ⟨.pushf9C, (.t1 0x9C), (refDesc 168 0x0 .none [] "pushf" (some "pushfw"))⟩,
  ⟨.popf9D, (.t1 0x9D), (refDesc 169 0x0 .none [] "popf" (some "popfw"))⟩,
  ⟨.sahf9E, (.t1 0x9E), (refDesc 170 0x0 .none [] "sahf")⟩,
  ⟨.lahf9F, (.t1 0x9F), (refDesc 171 0x0 .none [] "lahf")⟩,
  ⟨.cmcF5, (.t1 0xF5), (refDesc 172 0x0 .none [] "cmc")⟩,
  ⟨.clcF8, (.t1 0xF8), (refDesc 173 0x0 .none [] "clc")⟩,
  ⟨.stcF9, (.t1 0xF9), (refDesc 174 0x0 .none [] "stc")⟩,
  ⟨.cldFC, (.t1 0xFC), (refDesc 175 0x0 .none [] "cld")⟩,
  ⟨.stdFD, (.t1 0xFD), (refDesc 176 0x0 .none [] "std")⟩,
  ⟨.nop0F1F, (.t2 0x1F), (refDesc 166 0x11 .none [.ev] "nop")⟩]

/-- The group-dispatch rows (30_encoding.md R117). -/
def dispatchRows : List RowSpec := [
  ⟨.dispatch80, (.t1 0x80), (refDesc 0 0x3 .none [] "")⟩,
  ⟨.dispatch81, (.t1 0x81), (refDesc 0 0x3 .none [] "")⟩,
  ⟨.dispatch82, (.t1 0x82), (refDesc 0 0x3 .none [] "")⟩,
  ⟨.dispatch83, (.t1 0x83), (refDesc 0 0x3 .none [] "")⟩,
  ⟨.dispatch8F, (.t1 0x8F), (refDesc 0 0x3 .none [] "")⟩,
  ⟨.dispatchC0, (.t1 0xC0), (refDesc 0 0x3 .none [] "")⟩,
  ⟨.dispatchC1, (.t1 0xC1), (refDesc 0 0x3 .none [] "")⟩,
  ⟨.dispatchC6, (.t1 0xC6), (refDesc 0 0x3 .none [] "")⟩,
  ⟨.dispatchC7, (.t1 0xC7), (refDesc 0 0x3 .none [] "")⟩,
  ⟨.dispatchD0, (.t1 0xD0), (refDesc 0 0x3 .none [] "")⟩,
  ⟨.dispatchD1, (.t1 0xD1), (refDesc 0 0x3 .none [] "")⟩,
  ⟨.dispatchD2, (.t1 0xD2), (refDesc 0 0x3 .none [] "")⟩,
  ⟨.dispatchD3, (.t1 0xD3), (refDesc 0 0x3 .none [] "")⟩,
  ⟨.dispatchF6, (.t1 0xF6), (refDesc 0 0x3 .none [] "")⟩,
  ⟨.dispatchF7, (.t1 0xF7), (refDesc 0 0x3 .none [] "")⟩,
  ⟨.dispatchFE, (.t1 0xFE), (refDesc 0 0x3 .none [] "")⟩,
  ⟨.dispatchFF, (.t1 0xFF), (refDesc 0 0x3 .none [] "")⟩,
  ⟨.dispatch0F00, (.t2 0x00), (refDesc 0 0x3 .none [] "")⟩,
  ⟨.dispatch0F01, (.t2 0x01), (refDesc 0 0x3 .none [] "")⟩,
  ⟨.dispatch0FBA, (.t2 0xBA), (refDesc 0 0x3 .none [] "")⟩,
  ⟨.dispatch0FC7, (.t2 0xC7), (refDesc 0 0x3 .none [] "")⟩]

/-- The prefix rows and their PFX bits (30_encoding.md R112). -/
def prefixBits : List (Instr × Nat) := [
  (.prefixLock, 0), (.prefixRepnz, 1), (.prefixRepz, 2), (.prefixEs, 3), (.prefixCs, 4), (.prefixSs, 5), (.prefixDs, 6), (.prefixFs, 7), (.prefixGs, 8), (.prefixOpsize, 9), (.prefixAdsize, 10)]

/-- The prefix rows. -/
def prefixRows : List Instr := prefixBits.map Prod.fst

/-- The null entries of T1 (30_encoding.md section 10). -/
def nullT1 : List Nat := [
  0x9a, 0xc8, 0xd6, 0xd8, 0xd9, 0xda, 0xdb, 0xdc, 0xdd, 0xde, 0xdf, 0xea, 0xf1]

/-- Null entries of T2, part 0. -/
def nullT2Part0 : List Nat := [
  0x04, 0x05, 0x07, 0x0a, 0x0c, 0x0d, 0x0e, 0x0f, 0x10, 0x11, 0x12, 0x13, 0x14, 0x15, 0x16, 0x17,
  0x18, 0x19, 0x1a, 0x1b, 0x1c, 0x1d, 0x1e, 0x24, 0x25, 0x26, 0x27, 0x28, 0x29, 0x2a, 0x2b, 0x2c,
  0x2d, 0x2e, 0x2f, 0x36, 0x37, 0x38, 0x39, 0x3a, 0x3b, 0x3c, 0x3d, 0x3e, 0x3f, 0x50, 0x51, 0x52,
  0x53, 0x54, 0x55, 0x56, 0x57, 0x58, 0x59, 0x5a, 0x5b, 0x5c, 0x5d, 0x5e, 0x5f, 0x60, 0x61, 0x62]

/-- Null entries of T2, part 1. -/
def nullT2Part1 : List Nat := [
  0x63, 0x64, 0x65, 0x66, 0x67, 0x68, 0x69, 0x6a, 0x6b, 0x6c, 0x6d, 0x6e, 0x6f, 0x70, 0x71, 0x72,
  0x73, 0x74, 0x75, 0x76, 0x77, 0x78, 0x79, 0x7a, 0x7b, 0x7c, 0x7d, 0x7e, 0x7f, 0xa5, 0xa6, 0xa7,
  0xad, 0xae, 0xb8, 0xb9, 0xc2, 0xc3, 0xc4, 0xc5, 0xc6, 0xd0, 0xd1, 0xd2, 0xd3, 0xd4, 0xd5, 0xd6,
  0xd7, 0xd8, 0xd9, 0xda, 0xdb, 0xdc, 0xdd, 0xde, 0xdf, 0xe0, 0xe1, 0xe2, 0xe3, 0xe4, 0xe5, 0xe6]

/-- Null entries of T2, part 2. -/
def nullT2Part2 : List Nat := [
  0xe7, 0xe8, 0xe9, 0xea, 0xeb, 0xec, 0xed, 0xee, 0xef, 0xf0, 0xf1, 0xf2, 0xf3, 0xf4, 0xf5, 0xf6,
  0xf7, 0xf8, 0xf9, 0xfa, 0xfb, 0xfc, 0xfd, 0xfe, 0xff]

/-- The null entries of T2 (30_encoding.md section 10). -/
def nullT2 : List Nat := nullT2Part0 ++ nullT2Part1 ++ nullT2Part2

/-- The primary keys of the groups and their absent digits (30_encoding.md R134). -/
def groupKeys : List (Nat × List Nat) := [
  (0x80, []), (0x81, []), (0x82, []),
  (0x83, []), (0x8F, [1, 2, 3, 4, 5, 6, 7]), (0xC0, [6]),
  (0xC1, [6]), (0xC6, [1, 2, 3, 4, 5, 6, 7]), (0xC7, [1, 2, 3, 4, 5, 6, 7]),
  (0xD0, [6]), (0xD1, [6]), (0xD2, [6]),
  (0xD3, [6]), (0xF6, [1]), (0xF7, [1]),
  (0xFE, [2, 3, 4, 5, 6, 7]), (0xFF, [7]), (0xF00, [6, 7]),
  (0xF01, [5]), (0xFBA, [0, 1, 2, 3]), (0xFC7, [0, 2, 3, 4, 5, 6, 7])]

/-- The concrete scenarios (95_test_vectors.md section 1.1). -/
def scenarios : List (List Byte × String) := [
  ([0x00, 0x00], "add %al,(%eax)"),
  ([0x03, 0x05, 0x01, 0x00, 0x00, 0x00], "add 0x1,%eax"),
  ([0x8B, 0x1D, 0xA8, 0x6B, 0x25, 0xC0], "mov 0xc0256ba8,%ebx"),
  ([0x40], "inc %eax"),
  ([0x48], "dec %eax"),
  ([0x66, 0x90], "xchg %ax,%ax"),
  ([0x0F, 0x01, 0x15, 0xD2, 0xCD, 0x2B, 0x00], "lgdtl 0x2bcdd2")]

end Sys2Proof.Claims

open Sys2Proof Sys2Proof.Machine Sys2Proof.Claims

/-! Reset (70_reset_and_hazards.md). -/

/-- 70_reset_and_hazards.md R702 to R705: what RESET with the default parameters leaves over an empty source, and that FORMAT before the first
DECODE is refused and a read of the record finds no value. The empty source is the model's choice (log entry 5). -/
def Obligations.ResetDefaults : Prop :=
  State.create { src := [] } = .next State.reset
    ∧ State.reset.pe = true ∧ State.reset.dflag = true
    ∧ State.reset.pos = 0
    ∧ State.reset.defOpsize = .long ∧ State.reset.defAdsize = .long
    ∧ State.reset.start = none ∧ State.reset.di = none ∧ State.reset.status = none
    ∧ State.reset.render = .noValue .record
    ∧ formatOp State.reset = .next { State.reset with refusalMark := true }

/-- 70_reset_and_hazards.md R701 to R705, 60_exceptions.md R612: RESET over any source and any parameters creates a context exactly
when the table is well-formed and the arguments are in range, and the context is the one the rules give; every byte of the source reads
as given. -/
def Obligations.ResetCreates : Prop :=
  ∀ p : ResetParams,
    (p.optable.tables.wf = false → State.create p = .refused .illFormedTable)
    ∧ (p.optable.tables.wf = true → (p.src.length < p.initPos ∨ 1 < p.initPe ∨ 1 < p.initD) →
        State.create p = .refused .resetArgument)
    ∧ (p.optable.tables.wf = true → p.initPos ≤ p.src.length → p.initPe ≤ 1 → p.initD ≤ 1 →
        ∃ s, State.create p = .next s
          ∧ s.pe = (p.initPe == 1) ∧ s.dflag = (p.initD == 1) ∧ s.pos = p.initPos
          ∧ s.defOpsize = (if p.initPe = 1 ∧ p.initD = 1 then .long else .word)
          ∧ s.defAdsize = (if p.initPe = 1 ∧ p.initD = 1 then .long else .word)
          ∧ s.start = none ∧ s.di = none ∧ s.status = none
          ∧ s.tables = p.optable ∧ s.immExt = p.immExt ∧ s.vbase = p.vbase
          ∧ s.srcLen = p.src.length ∧ s.src.bytes 0 s.srcLen = p.src
          ∧ (formatOp s = .next { s with refusalMark := true }) ∧ s.render = .noValue .record)

/-- Every context that RESET creates satisfies the invariant (Safety.lean). -/
def Obligations.CreatedContextsInv : Prop :=
  ∀ (p : ResetParams) (s : State), State.create p = .next s → s.Inv

/-- The reset state satisfies the invariant. -/
def Obligations.ResetInv : Prop := State.reset.Inv

/-! Every step (10_state.md, 60_exceptions.md). -/

/-- Every step keeps the invariant, over REF and over every well-formed table of the host's own: the source's canonical form, POS and
START inside the source, the defaults as the flags give them, the record's fields in agreement and valid after a success. -/
def Obligations.StepKeepsInv : Prop :=
  ∀ s t : State, s.Inv → step s = .next t → t.Inv

/-- 10_state.md R66, 60_exceptions.md R615: from every state that satisfies the invariant the next operation completes, whatever is
pending: no step reads a field that holds no value, and none is refused a meaning. -/
def Obligations.StepNeverStops : Prop :=
  ∀ s : State, s.Inv → ∃ t, step s = .next t

/-- 60_exceptions.md R606: over well-formed tables, from a context satisfying the invariant, no DECODE ends in CONFIG_ASSERT. -/
def Obligations.ConfigAssertUnreachable : Prop :=
  ∀ (s : State) (t : Tables), s.Inv → t.wf = true → (pipeline t s).status ≠ some .configAssert

/-- 10_state.md R51: in every state that satisfies the invariant, and after every operation from one. -/
def Obligations.DefaultsStayWordOrLong : Prop :=
  ∀ s t : State, s.Inv → step s = .next t →
    (s.defOpsize = .word ∨ s.defOpsize = .long) ∧ (s.defAdsize = .word ∨ s.defAdsize = .long)
    ∧ (t.defOpsize = .word ∨ t.defOpsize = .long) ∧ (t.defAdsize = .word ∨ t.defAdsize = .long)

/-! A step runs the decoded rows. -/

/-- With no request pending and REF as the tables, a step runs the prefix rows that the bytes at POS decode to, one after another, and
then the row that follows them, from the context with no DECODE in progress. With no prefixes it is exec of that row. -/
def Obligations.StepRunsDecodedRow : Prop :=
  ∀ (s : State) (ps via : List Instr) (i : Instr) (b : Byte) (rest : List Byte) (x : Option (Insn × List Byte)),
    s.requests = [] → s.tables = .ref →
    decode s.defOpsize s.defAdsize s.remaining = ⟨ps, .row via i b rest, x⟩ →
      (ps = [] → step s = exec i s.idle)
      ∧ (∀ t, runRows ps s.idle = .next t → t.status = none → step s = exec i t)

/-- 40_decode_pipeline.md R161 to R198 over REF: running the rows that the decoder selects is the pipeline of the rules, from every
state, at every source. -/
def Obligations.RowsArePipeline : Prop :=
  ∀ s : State, s.tables = .ref → decodeOp s = .next (pipeline refTables s)

/-! Encoding (30_encoding.md). -/

/-- Decode and encode agree: prefix bytes and then a well-formed instruction of any other row, at every value of its parts, decode to
those prefix rows and that instruction, whatever bytes follow. -/
def Obligations.DecodeEncode : Prop :=
  ∀ (defOp defAd : SizeClass) (ps : List Instr) (x : Insn) (rest : List Byte),
    (∀ p ∈ ps, p ∈ prefixRows) → x.row ∉ prefixRows →
    (defOp = .word ∨ defOp = .long) → (defAd = .word ∨ defAd = .long) →
    x.wf (sizesUnder defOp defAd ps) = true →
      ∃ via b tail,
        decode defOp defAd ((ps.flatMap fun p => p.shape.opcode) ++ encode (sizesUnder defOp defAd ps) x ++ rest)
          = ⟨ps, .row via x.row b tail, some (x, rest)⟩

/-- Each byte string has one meaning: what the decoder reads is well-formed, and its bytes are those it was read from. -/
def Obligations.EncodeDecode : Prop :=
  ∀ (defOp defAd : SizeClass) (bs rest : List Byte) (x : Insn),
    (defOp = .word ∨ defOp = .long) → (defAd = .word ∨ defAd = .long) →
    (decode defOp defAd bs).insn = some (x, rest) →
      x.wf (sizesUnder defOp defAd (decode defOp defAd bs).prefixes) = true
      ∧ bs = ((decode defOp defAd bs).prefixes.flatMap fun p => p.shape.opcode)
          ++ encode (sizesUnder defOp defAd (decode defOp defAd bs).prefixes) x ++ rest

/-- Words written out from the encodings of the spec decode to their instructions: 00 /r, 8b /r with disp32, 80 /7 ib with a SIB byte,
48+r, 0f 01 /2, 66 90, f3 a5. -/
def Obligations.DecodeWords : Prop :=
  (decode .long .long [0x00, 0x00]).insn = some (⟨.add00, 0, ⟨0, 0, ⟨0, 0, 0⟩, 0⟩, 0⟩, [])
  ∧ (decode .long .long [0x8B, 0x1D, 0xA8, 0x6B, 0x25, 0xC0]).insn
      = some (⟨.mov8B, 3, ⟨0, 5, ⟨0, 0, 0⟩, 0xC0256BA8⟩, 0⟩, [])
  ∧ (decode .long .long [0x80, 0x7C, 0x8E, 0xFC, 0x12]).insn
      = some (⟨.cmp80_7, 7, ⟨1, 4, ⟨2, 1, 6⟩, 0xFC⟩, 0x12⟩, [])
  ∧ (decode .long .long [0x4B, 0xC3]).insn = some (⟨.dec48, 3, Rm.absent, 0⟩, [0xC3])
  ∧ (decode .long .long [0x0F, 0x01, 0x15, 0xD2, 0xCD, 0x2B, 0x00]).insn
      = some (⟨.lgdt0F01_2, 2, ⟨0, 5, ⟨0, 0, 0⟩, 0x2BCDD2⟩, 0⟩, [])
  ∧ decode .long .long [0x66, 0x90] = ⟨[.prefixOpsize], .row [] .xchg66_90 0x90 [], some (⟨.xchg66_90, 0, Rm.absent, 0⟩, [])⟩
  ∧ decode .long .long [0xF3, 0xA5] = ⟨[.prefixRepz], .row [] .movsA5 0xA5 [], some (⟨.movsA5, 0, Rm.absent, 0⟩, [])⟩

/-- REF satisfies the well-formedness conditions (30_encoding.md R130). -/
def Obligations.RefWellFormed : Prop := refTables.wf = true

/-- The null entries of REF are those section 10 of 30_encoding.md lists; in T1 also the bytes that never reach it (W11). -/
def Obligations.NullEntries : Prop :=
  (∀ b : Byte, rowAt refT1 b.toNat = none ↔ b.toNat ∈ nullT1 ∨ b.toNat = 0x0F ∨ (prefixBit b).isSome = true)
  ∧ ∀ b : Byte, rowAt refT2 b.toNat = none ↔ b.toNat ∈ nullT2

/-- 30_encoding.md R134: the absent digits of REF's groups. -/
def Obligations.AbsentDigits : Prop :=
  ∀ g ∈ groupKeys, ∀ digit : BitVec 3,
    rowAt refTG (g.1 * 256 + digit.toNat) = none ↔ digit.toNat ∈ g.2

/-! The rows (41_arith.md to 47_flags_misc.md): each completes, at every value of its parts, in the state its rule gives. -/

/-- The rows of 41_arith.md. -/
def Obligations.ArithRowsDecode : Prop := ∀ p ∈ arithRows, p.Decodes

/-- The rows of 42_shift_bit.md. -/
def Obligations.ShiftBitRowsDecode : Prop := ∀ p ∈ shiftBitRows, p.Decodes

/-- The rows of 43_move_stack.md, XCHG66 among them. -/
def Obligations.MoveStackRowsDecode : Prop := ∀ p ∈ moveStackRows, p.Decodes

/-- The rows of 44_control.md. -/
def Obligations.ControlRowsDecode : Prop := ∀ p ∈ controlRows, p.Decodes

/-- The rows of 45_string_io.md. -/
def Obligations.StringIoRowsDecode : Prop := ∀ p ∈ stringIoRows, p.Decodes

/-- The rows of 46_system.md. -/
def Obligations.SystemRowsDecode : Prop := ∀ p ∈ systemRows, p.Decodes

/-- The rows of 47_flags_misc.md. -/
def Obligations.FlagsMiscRowsDecode : Prop := ∀ p ∈ flagsMiscRows, p.Decodes

/-- 40_decode_pipeline.md R165: each prefix row sets its PFX bit and, for the two size overrides, its seen flag; a second prefix of a kind
changes nothing more but POS. THE MODEL'S CHOICE (log entry 21, DESIGN CHOICE): that a prefix row is a meaning of its own, from every state
with a byte to read whatever byte stands at POS, and that it leaves the DECODE in progress with STATUS without a value (for STATUS also log
entry 3, DEDUCED). -/
def Obligations.PrefixRowsRecord : Prop :=
  (∀ p ∈ prefixBits, ∀ s : State, s.pos + 1 ≤ s.srcLen →
    exec p.1 s = .next { (enter s).ctx with
      pos := s.pos + 1
      di := some { (enter s).di with
        pfx := (enter s).di.pfx ||| BitVec.ofNat 11 (2 ^ p.2)
        opszSeen := (enter s).di.opszSeen || p.1 == .prefixOpsize
        adszSeen := (enter s).di.adszSeen || p.1 == .prefixAdsize }
      status := none })
  ∧ ∀ p ∈ prefixRows, ∀ s t u : State, exec p s = .next t → t.status = none → exec p t = .next u → u.status = none →
    u = { t with pos := t.pos + 1 }

/-- 40_decode_pipeline.md R169, and R171 behind the escape: the escape's row reads the second byte; a null T2 entry ends the DECODE in
UNKNOWN_OPCODE, and a source that ends after 0F in END_OF_STREAM. THE MODEL'S CHOICE (log entry 21, DESIGN CHOICE): that a T2 entry
leaves the DECODE in progress, with its descriptor loaded and STATUS without a value, and that the first clause writes OPB = 0F without
asking which byte stands at POS. -/
def Obligations.EscapeRow : Prop :=
  (∀ s : State, s.pos + 1 = s.srcLen →
    exec .escape0F s = .next { (enter s).ctx with
      pos := s.pos + 1
      di := some { (enter s).di with opb := some 0x0F }
      status := some .endOfStream })
  ∧ ∀ (s : State) (b2 : Byte), Supplies s [0x0F, b2] →
    (∀ d, rowAt refT2 b2.toNat = some d →
      exec .escape0F s = .next { (enter s).ctx with
        pos := s.pos + 2
        di := some { (enter s).di with
          opb := some b2, opkey := some (0x0F00 + b2.toNat), desc := some (.t2 b2), szovr := ⟨.none, d.fixedOp⟩ }
        status := none })
    ∧ (rowAt refT2 b2.toNat = none →
      exec .escape0F s = .next { (enter s).ctx with
        pos := s.pos + 2
        di := some { (enter s).di with opb := some b2, opkey := some (0x0F00 + b2.toNat), desc := some .null }
        status := some .unknownOpcode })

/-- 40_decode_pipeline.md R174 and R175: a group-dispatch row reads the addressing form; an absent digit ends the DECODE in
GROUP_LOOKUP_FAILED with the composite key, the addressing fields written and POS after the displacement. THE MODEL'S CHOICE (log entry 21,
DESIGN CHOICE): a present digit leaves the DECODE in progress with the member's descriptor loaded and STATUS without a value, a state that
no step leaves. -/
def Obligations.DispatchRows : Prop :=
  ∀ p ∈ dispatchRows, ∀ (s : State) (r : BitVec 3) (m : Rm),
    m.wf (sizesAt s).adsize = true → SizesLegal s →
    Supplies s (p.row.shape.opcode ++ encodeRm (sizesAt s).adsize r m) →
      let key := p.place.key r * 256 + r.toNat
      let e := p.record (sizesAt s) s.immExt ⟨p.row, r, m, 0⟩ (enter s).di
      let pos := s.pos + p.row.shape.opcode.length + (encodeRm (sizesAt s).adsize r m).length
      (∀ d, rowAt refTG key = some d →
        exec p.row s = .next { (enter s).ctx with
          pos := pos
          di := some { e with opkey := some key, desc := some (.tg key), szovr := ⟨.none, d.fixedOp⟩ }
          status := none })
      ∧ (rowAt refTG key = none →
        exec p.row s = .next { (enter s).ctx with
          pos := pos
          di := some { e with opkey := some key, desc := some .null }
          status := some .groupLookupFailed })

/-- 40_decode_pipeline.md R170 and R171 as one step from an idle context: a null one-byte opcode ends the DECODE after its byte. -/
def Obligations.UnknownOneByteOpcode : Prop :=
  ∀ (s : State) (b : Byte), s.requests = [] → s.tables = .ref → Supplies s [b] → b.toNat ∈ nullT1 →
    step s = .next { s with
      start := some s.pos
      pos := s.pos + 1
      di := some { Di.fresh with opb := some b, opkey := some b.toNat, desc := some .null }
      status := some .unknownOpcode }

/-- 40_decode_pipeline.md R163, R166, R198: an empty remainder ends in END_OF_STREAM with POS = START and the record as a DECODE's start
leaves it. THE MODEL'S CHOICE (log entry 3, DEDUCED from D7 and R198 against R65): that DESC, OPKEY and OPB hold no value there, where R65
lets them keep the last DECODE's. -/
def Obligations.EmptyRemainder : Prop :=
  ∀ s : State, s.requests = [] → s.tables = .ref → s.srcLen ≤ s.pos →
    step s = .next { s with
      start := some s.pos
      di := some
        { pfx := 0, opszSeen := false, adszSeen := false, szovr := ⟨.none, .none⟩, scale := 0, dispSize := .none
          desc := none, opkey := none, opb := none, mod := none, reg := none, rm := none
          index := none, base := none, disp := none, imm := none }
      status := some .endOfStream }

/-- 40_decode_pipeline.md R198, 60_exceptions.md R603: over a source that ends inside an instruction, every row ends in END_OF_STREAM, with
POS between the instruction's start and the source's end, and everything outside the record unchanged. -/
def Obligations.TruncatedRows : Prop :=
  ∀ (s : State) (x : Insn) (k : Nat), x.wf (sizesAt s) = true → SizesLegal s →
    k < (encode (sizesAt s) x).length → s.pos ≤ s.srcLen → s.remaining = (encode (sizesAt s) x).take k →
      ∃ t, exec x.row s = .next t ∧ t.status = some .endOfStream
        ∧ t.start = (enter s).ctx.start ∧ s.pos ≤ t.pos ∧ t.pos ≤ t.srcLen ∧ SameOutside s t

/-! Frames and bounds. -/

/-- What every row of the table leaves unchanged, on every path: the mode, the defaults, the tables, the parameters, the host's fields,
START, the prefixes of the DECODE it is part of (a prefix row's own bits apart), and every byte of the source. -/
def Obligations.RowFrame : Prop :=
  ∀ (i : Instr) (s t : State), exec i s = .next t →
    SameOutside s t
    ∧ (∀ a, t.src.read a = s.src.read a)
    ∧ t.start = (enter s).ctx.start
    ∧ (t.status ≠ some .ok → t.fmtDefs = s.fmtDefs)
    ∧ (t.status ≠ some .configAssert → t.faultMark = s.faultMark)
    ∧ ∃ d, t.di = some d
      ∧ (i ∉ prefixRows → d.pfx = (enter s).di.pfx ∧ d.opszSeen = (enter s).di.opszSeen ∧ d.adszSeen = (enter s).di.adszSeen)
      ∧ (i ∈ prefixRows → { d with pfx := 0, opszSeen := false, adszSeen := false }
          = { (enter s).di with pfx := 0, opszSeen := false, adszSeen := false })

/-- 40_decode_pipeline.md R199, 10_state.md R47: a row reads at most 12 bytes (a prefix row 1), POS never goes back, and never passes L. -/
def Obligations.RowsReadAtMostTwelve : Prop :=
  ∀ (i : Instr) (s t : State), exec i s = .next t →
    s.pos ≤ t.pos ∧ t.pos ≤ s.pos + (if i ∈ prefixRows then 1 else 12) ∧ (s.pos ≤ s.srcLen → t.pos ≤ s.srcLen)

/-- 40_decode_pipeline.md R207: no operation but SET_PE and SET_D changes PE, DFLAG or the defaults; decoding never does. -/
def Obligations.ModeOnlyBySetters : Prop :=
  ∀ (r : Request) (s t : State), (∀ v, r ≠ .setD v) → (∀ v, r ≠ .setPe v) → runRequest r s = .next t →
    t.pe = s.pe ∧ t.dflag = s.dflag ∧ t.defOpsize = s.defOpsize ∧ t.defAdsize = s.defAdsize

/-- 40_decode_pipeline.md R200, over any well-formed or ill-formed tables: two contexts, at any two offsets of any two sources, with the
same bytes to come, the same defaults, tables and FIXED_IMM_EXT, decode to the same record and STATUS and consume as many bytes. THE MODEL'S
CHOICE (log entry 3, DEDUCED against R65): R200 compares the fields that are valid under R66; that the whole records are equal, DESC, OPKEY
and OPB after an early error among them, rests on the fields without a value. -/
def Obligations.DecodeDeterministic : Prop :=
  ∀ s s' t t' : State, s.remaining = s'.remaining → s.defOpsize = s'.defOpsize → s.defAdsize = s'.defAdsize →
    s.tables = s'.tables → s.immExt = s'.immExt →
    decodeOp s = .next t → decodeOp s' = .next t' →
      t.di = t'.di ∧ t.status = t'.status ∧ t.start = some s.pos ∧ t'.start = some s'.pos ∧ t.pos - s.pos = t'.pos - s'.pos

/-- 60_exceptions.md R611: the results of DECODE are no refusals and no faults: over REF, from the invariant, no DECODE sets a mark. -/
def Obligations.DecodeSetsNoMark : Prop :=
  ∀ s t : State, s.Inv → s.tables = .ref → decodeOp s = .next t →
    t.faultMark = s.faultMark ∧ t.refusalMark = s.refusalMark

/-! The cursor and the ModR/M decoder. -/

/-- 20_memory.md R83 and R84: a read of 1, 2 or 4 bytes gives the little-endian value and moves POS by its width, or raises END_OF_STREAM and
moves nothing. -/
def Obligations.CursorRead : Prop :=
  ∀ (n : Nat) (w : Work) (k : Nat → Work → Flow), n ∈ [1, 2, 4] →
    (n ≤ w.ctx.srcLen - w.ctx.pos →
      readN n w k = k ((List.range n).map fun j => (w.ctx.src.read (w.ctx.pos + j)).toNat * 256 ^ j).sum
        ⟨{ w.ctx with pos := w.ctx.pos + n }, w.di⟩)
    ∧ (w.ctx.srcLen - w.ctx.pos < n →
      readN n w k = .ended { w.ctx with di := some w.di, status := some .endOfStream })

/-- 20_memory.md R85: another width is no read; CONFIG_ASSERT, before any byte is consumed, and the fault mark. -/
def Obligations.CursorOtherWidth : Prop :=
  ∀ (n : Nat) (w : Work) (k : Nat → Work → Flow), n ∉ [1, 2, 4] →
    readN n w k = .ended { w.ctx with di := some w.di, status := some .configAssert, faultMark := true }

/-- 40_decode_pipeline.md R177: with MOD = 3 the ModR/M decoder reads its byte and nothing more, at every REG and RM, under every descriptor
and size. -/
def Obligations.ModThreeReadsNothing : Prop :=
  ∀ (d : Desc) (w : Work) (r m : BitVec 3), w.ctx.pos + 1 ≤ w.ctx.srcLen →
    (w.ctx.src.read w.ctx.pos).toNat = 0xC0 + r.toNat * 8 + m.toNat →
      modRm d w = .go ⟨{ w.ctx with pos := w.ctx.pos + 1 }, { w.di with mod := some 3, reg := some r, rm := some m }⟩

/-- 40_decode_pipeline.md R178: an address size outside word and long is an assertion failure after the ModR/M byte and before any other. -/
def Obligations.AddressSizeAsserted : Prop :=
  ∀ (d : Desc) (w : Work), w.ctx.pos + 1 ≤ w.ctx.srcLen → (w.ctx.src.read w.ctx.pos).toNat < 0xC0 →
    adsize d w ≠ .word → adsize d w ≠ .long →
      ∃ s, modRm d w = .ended s ∧ s.status = some .configAssert ∧ s.faultMark = true ∧ s.pos = w.ctx.pos + 1

/-- 40_decode_pipeline.md R193 to R195: the resolved sizes, for every descriptor and every combination of default, seen flag and SZOVR
nibble. -/
def Obligations.EffectiveSizes : Prop :=
  ∀ (d : Desc) (w : Work), SizesLegal w.ctx →
    opsize d w = (if d.flags.getLsbD 2 = true ∧ w.di.szovr.op ≠ .none then w.di.szovr.op
      else if w.di.opszSeen = true then (if w.ctx.defOpsize = .long then .word else .long) else w.ctx.defOpsize)
    ∧ adsize d w = (if d.flags.getLsbD 3 = true ∧ w.di.szovr.ad ≠ .none then w.di.szovr.ad
      else if w.di.adszSeen = true then (if w.ctx.defAdsize = .long then .word else .long) else w.ctx.defAdsize)

/-! The host operations. -/

/-- 40_decode_pipeline.md R201 and R203; 60_exceptions.md R607 for a value outside 0 and 1. What the operation returns is left
open here: the model's own slot setStatus (log entry 24, the statement SetterReturns). -/
def Obligations.SetDefaultWidth : Prop :=
  ∀ (v : Nat) (s : State),
    (v ≤ 1 → (v == 1) = s.dflag → ∃ e, runRequest (.setD v) s = .next { s with setStatus := e })
    ∧ (v ≤ 1 → (v == 1) ≠ s.dflag →
      ∃ e, runRequest (.setD v) s = .next { s with
        setStatus := e
        dflag := v == 1
        defOpsize := if s.pe = true ∧ v = 1 then .long else .word
        defAdsize := if s.pe = true ∧ v = 1 then .long else .word })
    ∧ (1 < v → ∃ e, runRequest (.setD v) s = .next { s with refusalMark := true, setStatus := e })

/-- 40_decode_pipeline.md R202 and R203; 60_exceptions.md R607 for a value outside 0 and 1. What the operation returns is left
open here: the model's own slot setStatus (log entry 24, the statement SetterReturns). -/
def Obligations.SetProtectedMode : Prop :=
  ∀ (v : Nat) (s : State),
    (v ≤ 1 → (v == 1) = s.pe → ∃ e, runRequest (.setPe v) s = .next { s with setStatus := e })
    ∧ (v ≤ 1 → (v == 1) ≠ s.pe →
      ∃ e, runRequest (.setPe v) s = .next { s with
        setStatus := e
        pe := v == 1
        defOpsize := if v = 1 ∧ s.dflag = true then .long else .word
        defAdsize := if v = 1 ∧ s.dflag = true then .long else .word })
    ∧ (1 < v → ∃ e, runRequest (.setPe v) s = .next { s with refusalMark := true, setStatus := e })

/-- 40_decode_pipeline.md R204. What the operation returns is left
open here: the model's own slot setStatus (log entry 24, the statement SetterReturns). -/
def Obligations.SetPosition : Prop :=
  ∀ (p : Nat) (s : State),
    (p ≤ s.srcLen → ∃ e, runRequest (.setPos p) s = .next { s with pos := p, setStatus := e })
    ∧ (s.srcLen < p → ∃ e, runRequest (.setPos p) s = .next { s with refusalMark := true, setStatus := e })

/-- 60_exceptions.md R607: each request outside the host contract does not run and sets the refusal mark, and the mark stays for the rest
of the run, whatever the next operation is. What a setter returns is left
open here: the model's own slot setStatus (log entry 24, the statement SetterReturns). -/
def Obligations.HostContractRefusals : Prop :=
  (∀ (v : Nat) (s : State), 1 < v → ∃ e, runRequest (.setD v) s = .next { s with refusalMark := true, setStatus := e })
  ∧ (∀ (v : Nat) (s : State), 1 < v → ∃ e, runRequest (.setPe v) s = .next { s with refusalMark := true, setStatus := e })
  ∧ (∀ (p : Nat) (s : State), s.srcLen < p → ∃ e, runRequest (.setPos p) s = .next { s with refusalMark := true, setStatus := e })
  ∧ (∀ s : State, s.status ≠ some .ok ∨ s.fmtDefs ≠ some (s.defOpsize, s.defAdsize) →
      runRequest .format s = .next { s with refusalMark := true })
  ∧ ∀ s t : State, step s = .next t → s.refusalMark = true → t.refusalMark = true

/-- 60_exceptions.md R611: the fault mark is never cleared, and a state with it is never final. -/
def Obligations.FaultMarkStays : Prop :=
  ∀ s t : State, step s = .next t → s.faultMark = true → t.faultMark = true ∧ t.final = false

/-- 20_memory.md R97: a change of a source byte between two operations changes that byte and nothing else of the context; the record of
an earlier DECODE is not updated. That the change is a request of the machine is the model's choice (log entry 14). -/
def Obligations.SourceChange : Prop :=
  ∀ (a : Nat) (b : Byte) (s t : State), s.src.wf = true → a < s.srcLen → runRequest (.sourceByte a b) s = .next t →
    t.src.read a = b ∧ (∀ x, x ≠ a → t.src.read x = s.src.read x) ∧ t = { s with src := t.src }

/-! FORMAT (49_formatter.md). -/

/-- 49_formatter.md R501: FORMAT writes nothing but its reply and the two marks. -/
def Obligations.FormatWritesNothing : Prop :=
  ∀ s t : State, formatOp s = .next t →
    t = { s with reply := t.reply, refusalMark := t.refusalMark, faultMark := t.faultMark }
    ∧ (s.refusalMark = true → t.refusalMark = true) ∧ (s.faultMark = true → t.faultMark = true)

/-- 49_formatter.md R502, 60_exceptions.md R607: FORMAT is refused unless the last DECODE succeeded and the defaults are those it ended
under; a refused one returns nothing. -/
def Obligations.FormatRefused : Prop :=
  ∀ s : State, s.status ≠ some .ok ∨ s.fmtDefs ≠ some (s.defOpsize, s.defAdsize) →
    formatOp s = .next { s with refusalMark := true }

/-- 49_formatter.md R527: the seven scenarios of 95_test_vectors.md section 1: DECODE and then FORMAT, from a context RESET creates over the
bytes, give the exact text. -/
def Obligations.FormatScenarios : Prop :=
  ∀ v ∈ scenarios, ∃ s t u : State, State.create { src := v.1 } = .next s ∧ step s = .next t ∧ t.status = some .ok
    ∧ t.pos = v.1.length ∧ formatOp t = .next u ∧ u.reply = some ⟨.ok, some v.2⟩

/-- 49_formatter.md R510: an immediate is masked to its tag's width. -/
def Obligations.ImmediateText : Prop :=
  ∀ (d : Desc) (w : Work) (v : Word), w.di.imm = some v →
    operandText d w .ib = .text ("$" ++ hex (v.toNat % 2 ^ 8))
    ∧ operandText d w .iw = .text ("$" ++ hex (v.toNat % 2 ^ 16))
    ∧ operandText d w .il = .text ("$" ++ hex v.toNat)
    ∧ (∀ n, sizeBytes (opsize d w) = some n →
      operandText d w .iv = .text ("$" ++ hex (v.toNat % 2 ^ (8 * n)))
      ∧ operandText d w .ibs = .text ("$" ++ hex (v.toNat % 2 ^ (8 * n))))

/-- 49_formatter.md R513: the segment names, and that codes 6 and 7 have none. -/
def Obligations.SegmentText : Prop :=
  ∀ (d : Desc) (w : Work) (c : BitVec 3) (t : Tag), t ∈ [Tag.sw, .seg2, .fs, .gs] → w.di.reg = some c →
    operandText d w t =
      if c.toNat < 6 then .text ("%" ++ (["es", "cs", "ss", "ds", "fs", "gs"].getD c.toNat "")) else .fails .formatRuleGap

/-- 49_formatter.md R517, R519: PAREN, case by case, for a record whose SIB fields hold values where SCALE says so. THE MODEL'S CHOICE (log
entry 12, DEDUCED): lea is known by ID = 65 in every descriptor, custom tables among them, where 30_encoding.md R126 gives that number to
REF's descriptor only. -/
def Obligations.ParenText : Prop :=
  ∀ (d : Desc) (di : Di) (mod : BitVec 2) (rm index base : BitVec 3),
    (di.scale ≠ 0 → di.index = some index ∧ di.base = some base) →
      let present := ¬(mod = 0 ∧ base = 5)
      paren d di mod rm = .text (
        if di.scale ≠ 0 ∧ present ∧ index ≠ 4 then
          "(" ++ name32 base ++ "," ++ name32 index ++ "," ++ decimal di.scale ++ ")"
        else if di.scale ≠ 0 ∧ present ∧ index = 4 then "(" ++ name32 base ++ ")"
        else if di.scale ≠ 0 ∧ ¬present ∧ index ≠ 4 then "(," ++ name32 index ++ "," ++ decimal di.scale ++ ")"
        else if di.scale ≠ 0 then (if d.id = 65 then "(,%eiz," ++ decimal di.scale ++ ")" else "")
        else if mod = 0 ∧ rm = 5 then ""
        else "(" ++ name32 rm ++ ")")

/-- 49_formatter.md R520: a memory expression under a 16-bit address size has no text. -/
def Obligations.SixteenBitAddressing : Prop :=
  ∀ (d : Desc) (w : Work) (mod : BitVec 2) (rm : BitVec 3) (t : Tag), t ∈ [Tag.eb, .ew, .ev, .m, .rd] →
    w.di.mod = some mod → mod ≠ 3 → w.di.rm = some rm → adsize d w ≠ .long →
      operandText d w t = .fails .unsupportedAddressing

/-- 49_formatter.md R516: the relative targets. THE MODEL'S CHOICE (log entry 13, DEDUCED, unsafe after a SET_POS): POS is the one FORMAT
finds. -/
def Obligations.RelativeTarget : Prop :=
  ∀ (d : Desc) (w : Work) (start n : Nat) (v : Word), w.ctx.start = some start → w.di.imm = some v →
    sizeBytes (adsize d w) = some n →
      operandText d w .jb = .text (hex (((w.ctx.vbase : Int) + start + (w.ctx.pos - start)
          + (BitVec.ofNat 8 v.toNat).toInt) % 2 ^ (8 * n)).toNat)
      ∧ operandText d w .jv = .text (hex (((w.ctx.vbase : Int) + start + (w.ctx.pos - start)
          + (BitVec.ofNat (8 * n) (v.toNat % 2 ^ (8 * n))).toInt) % 2 ^ (8 * n)).toNat)

/-- 49_formatter.md R504: the prefix texts of LOCK, REPNZ and REPZ, and that no other prefix adds one. THE MODEL'S CHOICE (log entry 12,
DEDUCED): the five operations R504 names are known by the IDs 125, 127, 128, 123 and 124 in every descriptor, where 30_encoding.md R126
gives those numbers to REF's descriptors only. -/
def Obligations.PrefixTexts : Prop :=
  ∀ (d : Desc) (pfx : BitVec 11),
    prefixText d pfx =
      (if pfx.getLsbD 0 = true then "lock " else "") ++ (if pfx.getLsbD 1 = true then "repnz " else "")
        ++ (if pfx.getLsbD 2 = true then
              (if d.id = 125 ∨ d.id = 127 ∨ d.id = 128 ∨ d.id = 123 ∨ d.id = 124 then "rep " else "repz ") else "")

/-! SZOVR's eight bits, and the end of a run. -/

/-- 40_decode_pipeline.md R172, 10_state.md R63, R52: after a success over REF, SZOVR as its 8 bits is (hi << 4) | lo, with the codes of
the descriptor that DESC names: its FIXED_AD where it has ADSZ_FIXED, its FIXED_OP where it has OPSZ_FIXED, else 0. -/
def Obligations.SzovrByte : Prop :=
  ∀ (i : Instr) (s t : State) (r : Di) (ref : DescRef) (d : Desc), exec i s = .next t → t.status = some .ok →
    t.di = some r → r.desc = some ref → ref.resolve refTables Ref.xchg66_90 = some d →
      r.szovr.byte.toNat = (if d.adszFixed = true then d.fixedAd.code.toNat else 0) <<< 4
        ||| (if d.opszFixed = true then d.fixedOp.code.toNat else 0)

/-- 00_scope.md R10, 40_decode_pipeline.md R206: from the invariant, a DECODE that ends in END_OF_STREAM leaves a clean end exactly if POS =
START and START = L, and a truncated one exactly if POS > START; it leaves one of the two, and only the truncated one is an end in error.
Every other failed DECODE leaves an end in error that is neither. THE MODEL'S READING (log entry 27, DEDUCED): cleanEnd and truncated read
STATUS and START, the POS meant being the one at the last DECODE's end, and so no operation that is not a DECODE, SET_POS among them,
changes how the run ended. -/
def Obligations.RunEnd : Prop :=
  (∀ s t : State, s.Inv → decodeOp s = .next t → t.status = some .endOfStream →
    (t.cleanEnd = true ↔ t.start = some t.pos ∧ t.start = some t.srcLen)
    ∧ (t.truncated = true ↔ ∃ p, t.start = some p ∧ p < t.pos)
    ∧ t.truncated = !t.cleanEnd ∧ t.endedInError = t.truncated)
  ∧ (∀ s t : State, s.Inv → decodeOp s = .next t → t.status ≠ some .endOfStream →
    t.cleanEnd = false ∧ t.truncated = false ∧ (t.endedInError = true ↔ t.status ≠ some .ok))
  ∧ ∀ (r : Request) (s t : State), r ≠ .decode → runRequest r s = .next t →
    t.cleanEnd = s.cleanEnd ∧ t.truncated = s.truncated ∧ t.endedInError = s.endedInError ∧ t.final = s.final

/-! What a setter returns, and the sizes of the tags. -/

/-- 00_scope.md R9, 60_exceptions.md R601: each setter returns a status. THE MODEL'S CHOICE (log entry 24, DEDUCED): OK when it runs, whether
or not the value changes anything, and nothing when it is refused (R607: "no code"), in the slot setStatus; no other host operation writes
that slot. -/
def Obligations.SetterReturns : Prop :=
  (∀ (v : Nat) (s t : State), runRequest (.setD v) s = .next t → t.setStatus = if v ≤ 1 then some .ok else none)
  ∧ (∀ (v : Nat) (s t : State), runRequest (.setPe v) s = .next t → t.setStatus = if v ≤ 1 then some .ok else none)
  ∧ (∀ (p : Nat) (s t : State), runRequest (.setPos p) s = .next t → t.setStatus = if p ≤ s.srcLen then some .ok else none)
  ∧ ∀ (r : Request) (s t : State), (∀ v, r ≠ .setD v) → (∀ v, r ≠ .setPe v) → (∀ p, r ≠ .setPos p) → runRequest r s = .next t →
    t.setStatus = s.setStatus

/-- The general-register names of a width in bytes (10_state.md R42). -/
def registerNames : Nat → List String
  | 1 => ["al", "cl", "dl", "bl", "ah", "ch", "dh", "bh"]
  | 2 => ["ax", "cx", "dx", "bx", "sp", "bp", "si", "di"]
  | 4 => ["eax", "ecx", "edx", "ebx", "esp", "ebp", "esi", "edi"]
  | 8 => ["rax", "rcx", "rdx", "rbx", "rsp", "rbp", "rsi", "rdi"]
  | _ => []

/-- 49_formatter.md R512, R523; 30_encoding.md R125: a register operand is named at its tag's size class, or at opsize() where the class is
full; a register-or-memory operand with MOD = 3 likewise, M at opsize(), with the star of an indirect target. -/
def Obligations.RegisterText : Prop :=
  ∀ (d : Desc) (w : Work) (t : Tag) (c : BitVec 3) (size : SizeClass) (n : Nat),
    size = (if t.sizeClass = .full ∨ t = .m then opsize d w else t.sizeClass) → sizeBytes size = some n →
      (t ∈ [Tag.gb, .gw, .gv, .zb, .zv, .zd] → w.di.reg = some c →
        operandText d w t = .text ("%" ++ (registerNames n).getD c.toNat ""))
      ∧ (t ∈ [Tag.eb, .ew, .ev, .m, .rd] → w.di.mod = some 3 → w.di.rm = some c →
        operandText d w t = .text ((if d.indirect = true then "*" else "") ++ ("%" ++ (registerNames n).getD c.toNat "")))
end

