-- ==== Sys2Proof/Laws/Codes.lean ====
section
/-! SUPPORT. A code and the name it stands for determine each other. -/

namespace Sys2Proof

@[simp] theorem SizeClass.ofCode_code (c : SizeClass) : SizeClass.ofCode c.code = some c := by cases c <;> rfl

theorem SizeClass.code_of_ofCode {b : BitVec 4} {c : SizeClass} (h : SizeClass.ofCode b = some c) : c.code = b := by
  unfold SizeClass.ofCode at h
  repeat' split at h
  all_goals cases h
  all_goals simp_all [SizeClass.code]

/-- "The code 0 doubles as unset" (10_state.md R52). -/
theorem SizeClass.code_eq_zero_iff (c : SizeClass) : c.code = 0 ↔ c = .none := by cases c <;> decide

namespace Machine

@[simp] theorem Szovr.byte_high (z : Szovr) : z.byte.extractLsb' 4 4 = z.ad.code := by
  obtain ⟨ad, op⟩ := z
  cases ad <;> cases op <;> rfl

@[simp] theorem Szovr.byte_low (z : Szovr) : z.byte.extractLsb' 0 4 = z.op.code := by
  obtain ⟨ad, op⟩ := z
  cases ad <;> cases op <;> rfl

/-- SZOVR loses nothing in its eight bits. -/
@[simp] theorem Szovr.ofByte_byte (z : Szovr) : Szovr.ofByte z.byte = some z := by simp [Szovr.ofByte]

theorem Status.code_injective : ∀ e e' : Status, e.code = e'.code → e = e' := by
  intro e e' h
  cases e <;> cases e' <;> first | rfl | cases h

@[simp] theorem Tag.ofCode_code (t : Tag) : Tag.ofCode t.code = t := by
  cases t with
  | other n => simp [Tag.code, Tag.ofCode, Tag.vocabulary]
  | _ => rfl

@[simp] theorem Tag.code_other (n : Nat) : (Tag.other n).code = 34 + n := rfl

end Machine
end Sys2Proof
end

