-- ==== Sys2Proof/Laws/Memory.lean ====
section
/-! SUPPORT. The laws of the byte source's memory: read after write, the canonical form, equal reads give equal memories. -/

namespace Sys2Proof.Machine.Memory

@[simp] theorem read_nil (x : Nat) : Memory.read [] x = 0 := rfl

theorem read_cons (a : Nat) (b : Byte) (m : Memory) (x : Nat) :
    Memory.read ((a, b) :: m) x = if a = x then b else Memory.read m x := rfl

/-- Nothing is listed below the bound of the canonical form. -/
theorem read_of_lt {lo : Nat} {m : Memory} (h : wfFrom lo m = true) {x : Nat} (hx : x < lo) : read m x = 0 := by
  induction m generalizing lo with
  | nil => rfl
  | cons c m ih =>
    obtain ⟨a, b⟩ := c
    simp only [wfFrom, Bool.and_eq_true, decide_eq_true_eq] at h
    rw [read_cons, if_neg (by omega)]
    exact ih h.2 (by omega)

theorem wfFrom_mono {lo lo' : Nat} (hl : lo ≤ lo') {m : Memory} (h : wfFrom lo' m = true) : wfFrom lo m = true := by
  cases m with
  | nil => rfl
  | cons c m =>
    simp only [wfFrom, Bool.and_eq_true, decide_eq_true_eq] at h ⊢
    exact ⟨⟨by omega, h.1.2⟩, h.2⟩

theorem read_write_same {lo : Nat} {m : Memory} (h : wfFrom lo m = true) (x : Nat) (v : Byte) :
    read (write m x v) x = v := by
  induction m generalizing lo with
  | nil =>
    rw [write]
    split
    · rename_i hv; rw [hv]; rfl
    · simp [read]
  | cons c m ih =>
    obtain ⟨a, b⟩ := c
    simp only [wfFrom, Bool.and_eq_true, decide_eq_true_eq] at h
    unfold write
    split
    · split
      · rename_i h1 h2
        rw [read_cons, if_neg (by omega), h2]
        exact read_of_lt h.2 (by omega)
      · simp [read]
    · split
      · split
        · rename_i h2 h3
          rw [h3, h2]
          exact read_of_lt h.2 (by omega)
        · simp [read]
      · rename_i h1 h2
        rw [read_cons, if_neg (by omega)]
        exact ih h.2

theorem read_write_other {lo : Nat} {m : Memory} (h : wfFrom lo m = true) {x y : Nat} (hxy : y ≠ x) (v : Byte) :
    read (write m x v) y = read m y := by
  have hyx : x ≠ y := fun e => hxy e.symm
  induction m generalizing lo with
  | nil =>
    rw [write]
    split
    · rfl
    · rw [read_cons, if_neg hyx]
  | cons c m ih =>
    obtain ⟨a, b⟩ := c
    simp only [wfFrom, Bool.and_eq_true, decide_eq_true_eq] at h
    unfold write
    split
    · split
      · rfl
      · rw [read_cons x, if_neg hyx]
    · split
      · rename_i h2
        subst h2
        split
        · rw [read_cons, if_neg hyx]
        · rw [read_cons, read_cons, if_neg hyx, if_neg hyx]
      · rw [read_cons, read_cons, ih h.2]

theorem wfFrom_write {lo : Nat} {m : Memory} (h : wfFrom lo m = true) {x : Nat} (hx : lo ≤ x) (v : Byte) :
    wfFrom lo (write m x v) = true := by
  induction m generalizing lo with
  | nil =>
    rw [write]
    split
    · rfl
    · rename_i hv; simpa [wfFrom, hx] using hv
  | cons c m ih =>
    obtain ⟨a, b⟩ := c
    have h' := h
    simp only [wfFrom, Bool.and_eq_true, decide_eq_true_eq] at h
    unfold write
    split
    · split
      · exact h'
      · rename_i h1 h2
        simp only [wfFrom, Bool.and_eq_true, decide_eq_true_eq]
        exact ⟨⟨hx, by simpa using h2⟩, ⟨by omega, h.1.2⟩, h.2⟩
    · split
      · rename_i h1 h2
        subst h2
        split
        · exact wfFrom_mono (by omega) h.2
        · rename_i h3
          simp only [wfFrom, Bool.and_eq_true, decide_eq_true_eq]
          exact ⟨⟨hx, by simpa using h3⟩, h.2⟩
      · simp only [wfFrom, Bool.and_eq_true, decide_eq_true_eq]
        exact ⟨h.1, ih h.2 (by omega)⟩

/-- A write keeps the canonical form. -/
theorem wf_write {m : Memory} (h : m.wf = true) (x : Nat) (v : Byte) : (write m x v).wf = true :=
  wfFrom_write h (Nat.zero_le x) v

theorem wf_writeBytes {m : Memory} (h : m.wf = true) (a : Nat) (bs : List Byte) : (writeBytes m a bs).wf = true := by
  induction bs generalizing m a with
  | nil => exact h
  | cons b bs ih => exact ih (wf_write h a b) (a + 1)

/-- What a run of bytes reads as after it was written, and that no other byte changed. -/
theorem read_writeBytes {m : Memory} (h : m.wf = true) (a : Nat) (bs : List Byte) (x : Nat) :
    read (writeBytes m a bs) x = if a ≤ x ∧ x < a + bs.length then bs.getD (x - a) 0 else read m x := by
  induction bs generalizing m a with
  | nil => rw [List.length_nil, if_neg (by omega)]; rfl
  | cons b bs ih =>
    rw [writeBytes, ih (wf_write h a b), List.length_cons]
    by_cases hx : x = a
    · subst hx
      rw [if_neg (by omega), if_pos (by omega), read_write_same h]
      simp
    · rw [read_write_other h hx]
      by_cases hin : a + 1 ≤ x ∧ x < a + 1 + bs.length
      · rw [if_pos hin, if_pos (by omega)]
        obtain ⟨k, rfl⟩ : ∃ k, x = a + 1 + k := ⟨x - (a + 1), by omega⟩
        rw [show a + 1 + k - (a + 1) = k by omega, show a + 1 + k - a = k + 1 by omega]
        rfl
      · rw [if_neg hin, if_neg (by omega)]

/-- Two canonical memories that read alike are the same data. -/
theorem eq_of_read {lo : Nat} {m m' : Memory} (h : wfFrom lo m = true) (h' : wfFrom lo m' = true)
    (he : ∀ x, read m x = read m' x) : m = m' := by
  induction m generalizing lo m' with
  | nil =>
    cases m' with
    | nil => rfl
    | cons c m' =>
      obtain ⟨a, b⟩ := c
      simp only [wfFrom, Bool.and_eq_true] at h'
      have := he a
      rw [read_cons, if_pos rfl, read_nil] at this
      simp [← this] at h'
  | cons c m ih =>
    obtain ⟨a, b⟩ := c
    cases m' with
    | nil =>
      simp only [wfFrom, Bool.and_eq_true] at h
      have := he a
      rw [read_cons, if_pos rfl, read_nil] at this
      simp [this] at h
    | cons c' m' =>
      obtain ⟨a', b'⟩ := c'
      simp only [wfFrom, Bool.and_eq_true, decide_eq_true_eq, bne_iff_ne, ne_eq] at h h'
      have haa : a = a' := by
        rcases Nat.lt_trichotomy a a' with hl | hl | hl
        · have := he a
          rw [read_cons, if_pos rfl, read_cons, if_neg (by omega), read_of_lt h'.2 (by omega)] at this
          exact absurd this h.1.2
        · exact hl
        · have := he a'
          rw [read_cons, if_neg (by omega), read_of_lt h.2 (by omega), read_cons, if_pos rfl] at this
          exact absurd this.symm h'.1.2
      subst haa
      have hb : b = b' := by simpa [read] using he a
      subst hb
      have hm : m = m' := by
        apply ih h.2 h'.2
        intro x
        by_cases hx : a = x
        · subst hx
          rw [read_of_lt h.2 (by omega), read_of_lt h'.2 (by omega)]
        · have := he x
          rwa [read_cons, if_neg hx, read_cons, if_neg hx] at this
      rw [hm]

@[simp] theorem bytes_length (m : Memory) (a n : Nat) : (m.bytes a n).length = n := by
  induction n generalizing a with
  | zero => rfl
  | succ n ih => simp [bytes, ih]

/-- The bytes of a window, one by one. -/
theorem bytes_getElem? (m : Memory) (a n k : Nat) : (m.bytes a n)[k]? = if k < n then some (m.read (a + k)) else none := by
  induction n generalizing a k with
  | zero => rfl
  | succ n ih =>
    cases k with
    | zero => simp [bytes]
    | succ k =>
      rw [bytes, List.getElem?_cons_succ, ih]
      by_cases hk : k < n
      · rw [if_pos hk, if_pos (by omega), show a + 1 + k = a + (k + 1) by omega]
      · rw [if_neg hk, if_neg (by omega)]

/-- A window over bytes just written holds them. -/
theorem bytes_writeBytes {m : Memory} (h : m.wf = true) (a : Nat) (bs : List Byte) :
    (writeBytes m a bs).bytes a bs.length = bs := by
  apply List.ext_getElem?
  intro k
  rw [bytes_getElem?, read_writeBytes h]
  by_cases hk : k < bs.length
  · rw [if_pos hk, if_pos ⟨Nat.le_add_right a k, Nat.add_lt_add_left hk a⟩, Nat.add_sub_cancel_left,
      List.getElem?_eq_getElem hk, List.getD_eq_getElem?_getD, List.getElem?_eq_getElem hk]
    rfl
  · rw [if_neg hk, List.getElem?_eq_none (Nat.not_lt.mp hk)]

/-- Reading a window and reading its bytes agree: the cursor's value is what the decoder takes. -/
theorem takeLE_bytes (m : Memory) (a n k : Nat) :
    takeLE n (m.bytes a (n + k)) = some (m.readLE a n, m.bytes (a + n) k) := by
  induction n generalizing a with
  | zero => simp [takeLE, readLE]
  | succ n ih =>
    rw [show n + 1 + k = (n + k) + 1 by omega, bytes, takeLE, ih (a + 1)]
    simp [readLE, show a + 1 + n = a + (n + 1) by omega]

end Sys2Proof.Machine.Memory
end

