-- ==== Sys2Proof/Laws/State.lean ====
section
/-! SUPPORT. One lemma per field per update of the record and of the context, so that no later proof unfolds a record update; and the
small equations of a DECODE's flow. -/

namespace Sys2Proof.Machine

/-! Flow. -/

@[simp] theorem Flow.andThen_go (w : Work) (k : Work → Flow) : (Flow.go w).andThen k = k w := rfl
@[simp] theorem Flow.andThen_ended (s : State) (k : Work → Flow) : (Flow.ended s).andThen k = .ended s := rfl
@[simp] theorem Flow.state_ended (s : State) : (Flow.ended s).state = s := rfl
@[simp] theorem Rendered.andThen_text (t : String) (k : String → Rendered) : (Rendered.text t).andThen k = k t := rfl
@[simp] theorem Rendered.andThen_fails (e : Status) (k : String → Rendered) : (Rendered.fails e).andThen k = .fails e := rfl
@[simp] theorem Rendered.andThen_noValue (f : Field) (k : String → Rendered) : (Rendered.noValue f).andThen k = .noValue f := rfl

theorem Flow.andThen_assoc (f : Flow) (g h : Work → Flow) : (f.andThen g).andThen h = f.andThen fun w => (g w).andThen h := by
  cases f <;> rfl


/-! latchOpcode. -/

@[simp] theorem latchOpcode_ctx (b : Byte) (w : Work) : (latchOpcode b w).ctx = w.ctx := rfl
@[simp] theorem latchOpcode_pfx (b : Byte) (w : Work) : (latchOpcode b w).di.pfx = w.di.pfx := rfl
@[simp] theorem latchOpcode_opszSeen (b : Byte) (w : Work) : (latchOpcode b w).di.opszSeen = w.di.opszSeen := rfl
@[simp] theorem latchOpcode_adszSeen (b : Byte) (w : Work) : (latchOpcode b w).di.adszSeen = w.di.adszSeen := rfl
@[simp] theorem latchOpcode_szovr (b : Byte) (w : Work) : (latchOpcode b w).di.szovr = w.di.szovr := rfl
@[simp] theorem latchOpcode_scale (b : Byte) (w : Work) : (latchOpcode b w).di.scale = w.di.scale := rfl
@[simp] theorem latchOpcode_dispSize (b : Byte) (w : Work) : (latchOpcode b w).di.dispSize = w.di.dispSize := rfl
@[simp] theorem latchOpcode_desc (b : Byte) (w : Work) : (latchOpcode b w).di.desc = w.di.desc := rfl
@[simp] theorem latchOpcode_opkey (b : Byte) (w : Work) : (latchOpcode b w).di.opkey = w.di.opkey := rfl
@[simp] theorem latchOpcode_opb (b : Byte) (w : Work) : (latchOpcode b w).di.opb = some b := rfl
@[simp] theorem latchOpcode_mod (b : Byte) (w : Work) : (latchOpcode b w).di.mod = w.di.mod := rfl
@[simp] theorem latchOpcode_reg (b : Byte) (w : Work) : (latchOpcode b w).di.reg = w.di.reg := rfl
@[simp] theorem latchOpcode_rm (b : Byte) (w : Work) : (latchOpcode b w).di.rm = w.di.rm := rfl
@[simp] theorem latchOpcode_index (b : Byte) (w : Work) : (latchOpcode b w).di.index = w.di.index := rfl
@[simp] theorem latchOpcode_base (b : Byte) (w : Work) : (latchOpcode b w).di.base = w.di.base := rfl
@[simp] theorem latchOpcode_disp (b : Byte) (w : Work) : (latchOpcode b w).di.disp = w.di.disp := rfl
@[simp] theorem latchOpcode_imm (b : Byte) (w : Work) : (latchOpcode b w).di.imm = w.di.imm := rfl

/-! recordPrefix. -/

@[simp] theorem recordPrefix_ctx (i : Nat) (w : Work) : (recordPrefix i w).ctx = w.ctx := rfl
@[simp] theorem recordPrefix_pfx (i : Nat) (w : Work) : (recordPrefix i w).di.pfx = w.di.pfx ||| (1#11 <<< i) := rfl
@[simp] theorem recordPrefix_opszSeen (i : Nat) (w : Work) : (recordPrefix i w).di.opszSeen = (w.di.opszSeen || i == 9) := rfl
@[simp] theorem recordPrefix_adszSeen (i : Nat) (w : Work) : (recordPrefix i w).di.adszSeen = (w.di.adszSeen || i == 10) := rfl
@[simp] theorem recordPrefix_szovr (i : Nat) (w : Work) : (recordPrefix i w).di.szovr = w.di.szovr := rfl
@[simp] theorem recordPrefix_scale (i : Nat) (w : Work) : (recordPrefix i w).di.scale = w.di.scale := rfl
@[simp] theorem recordPrefix_dispSize (i : Nat) (w : Work) : (recordPrefix i w).di.dispSize = w.di.dispSize := rfl
@[simp] theorem recordPrefix_desc (i : Nat) (w : Work) : (recordPrefix i w).di.desc = w.di.desc := rfl
@[simp] theorem recordPrefix_opkey (i : Nat) (w : Work) : (recordPrefix i w).di.opkey = w.di.opkey := rfl
@[simp] theorem recordPrefix_opb (i : Nat) (w : Work) : (recordPrefix i w).di.opb = w.di.opb := rfl
@[simp] theorem recordPrefix_mod (i : Nat) (w : Work) : (recordPrefix i w).di.mod = w.di.mod := rfl
@[simp] theorem recordPrefix_reg (i : Nat) (w : Work) : (recordPrefix i w).di.reg = w.di.reg := rfl
@[simp] theorem recordPrefix_rm (i : Nat) (w : Work) : (recordPrefix i w).di.rm = w.di.rm := rfl
@[simp] theorem recordPrefix_index (i : Nat) (w : Work) : (recordPrefix i w).di.index = w.di.index := rfl
@[simp] theorem recordPrefix_base (i : Nat) (w : Work) : (recordPrefix i w).di.base = w.di.base := rfl
@[simp] theorem recordPrefix_disp (i : Nat) (w : Work) : (recordPrefix i w).di.disp = w.di.disp := rfl
@[simp] theorem recordPrefix_imm (i : Nat) (w : Work) : (recordPrefix i w).di.imm = w.di.imm := rfl

/-! select. -/

@[simp] theorem select_ctx (ref : DescRef) (key : Nat) (d : Desc) (w : Work) : (select ref key d w).ctx = w.ctx := rfl
@[simp] theorem select_pfx (ref : DescRef) (key : Nat) (d : Desc) (w : Work) : (select ref key d w).di.pfx = w.di.pfx := rfl
@[simp] theorem select_opszSeen (ref : DescRef) (key : Nat) (d : Desc) (w : Work) : (select ref key d w).di.opszSeen = w.di.opszSeen := rfl
@[simp] theorem select_adszSeen (ref : DescRef) (key : Nat) (d : Desc) (w : Work) : (select ref key d w).di.adszSeen = w.di.adszSeen := rfl
@[simp] theorem select_szovr (ref : DescRef) (key : Nat) (d : Desc) (w : Work) : (select ref key d w).di.szovr = d.szovr := rfl
@[simp] theorem select_scale (ref : DescRef) (key : Nat) (d : Desc) (w : Work) : (select ref key d w).di.scale = w.di.scale := rfl
@[simp] theorem select_dispSize (ref : DescRef) (key : Nat) (d : Desc) (w : Work) : (select ref key d w).di.dispSize = w.di.dispSize := rfl
@[simp] theorem select_desc (ref : DescRef) (key : Nat) (d : Desc) (w : Work) : (select ref key d w).di.desc = some ref := rfl
@[simp] theorem select_opkey (ref : DescRef) (key : Nat) (d : Desc) (w : Work) : (select ref key d w).di.opkey = some key := rfl
@[simp] theorem select_opb (ref : DescRef) (key : Nat) (d : Desc) (w : Work) : (select ref key d w).di.opb = w.di.opb := rfl
@[simp] theorem select_mod (ref : DescRef) (key : Nat) (d : Desc) (w : Work) : (select ref key d w).di.mod = w.di.mod := rfl
@[simp] theorem select_reg (ref : DescRef) (key : Nat) (d : Desc) (w : Work) : (select ref key d w).di.reg = w.di.reg := rfl
@[simp] theorem select_rm (ref : DescRef) (key : Nat) (d : Desc) (w : Work) : (select ref key d w).di.rm = w.di.rm := rfl
@[simp] theorem select_index (ref : DescRef) (key : Nat) (d : Desc) (w : Work) : (select ref key d w).di.index = w.di.index := rfl
@[simp] theorem select_base (ref : DescRef) (key : Nat) (d : Desc) (w : Work) : (select ref key d w).di.base = w.di.base := rfl
@[simp] theorem select_disp (ref : DescRef) (key : Nat) (d : Desc) (w : Work) : (select ref key d w).di.disp = w.di.disp := rfl
@[simp] theorem select_imm (ref : DescRef) (key : Nat) (d : Desc) (w : Work) : (select ref key d w).di.imm = w.di.imm := rfl

/-! setModRm. -/

@[simp] theorem setModRm_ctx (b : Byte) (w : Work) : (setModRm b w).ctx = w.ctx := rfl
@[simp] theorem setModRm_pfx (b : Byte) (w : Work) : (setModRm b w).di.pfx = w.di.pfx := rfl
@[simp] theorem setModRm_opszSeen (b : Byte) (w : Work) : (setModRm b w).di.opszSeen = w.di.opszSeen := rfl
@[simp] theorem setModRm_adszSeen (b : Byte) (w : Work) : (setModRm b w).di.adszSeen = w.di.adszSeen := rfl
@[simp] theorem setModRm_szovr (b : Byte) (w : Work) : (setModRm b w).di.szovr = w.di.szovr := rfl
@[simp] theorem setModRm_scale (b : Byte) (w : Work) : (setModRm b w).di.scale = w.di.scale := rfl
@[simp] theorem setModRm_dispSize (b : Byte) (w : Work) : (setModRm b w).di.dispSize = w.di.dispSize := rfl
@[simp] theorem setModRm_desc (b : Byte) (w : Work) : (setModRm b w).di.desc = w.di.desc := rfl
@[simp] theorem setModRm_opkey (b : Byte) (w : Work) : (setModRm b w).di.opkey = w.di.opkey := rfl
@[simp] theorem setModRm_opb (b : Byte) (w : Work) : (setModRm b w).di.opb = w.di.opb := rfl
@[simp] theorem setModRm_mod (b : Byte) (w : Work) : (setModRm b w).di.mod = some (topField b) := rfl
@[simp] theorem setModRm_reg (b : Byte) (w : Work) : (setModRm b w).di.reg = some (midField b) := rfl
@[simp] theorem setModRm_rm (b : Byte) (w : Work) : (setModRm b w).di.rm = some (lowField b) := rfl
@[simp] theorem setModRm_index (b : Byte) (w : Work) : (setModRm b w).di.index = w.di.index := rfl
@[simp] theorem setModRm_base (b : Byte) (w : Work) : (setModRm b w).di.base = w.di.base := rfl
@[simp] theorem setModRm_disp (b : Byte) (w : Work) : (setModRm b w).di.disp = w.di.disp := rfl
@[simp] theorem setModRm_imm (b : Byte) (w : Work) : (setModRm b w).di.imm = w.di.imm := rfl

/-! setSib. -/

@[simp] theorem setSib_ctx (b : Byte) (w : Work) : (setSib b w).ctx = w.ctx := rfl
@[simp] theorem setSib_pfx (b : Byte) (w : Work) : (setSib b w).di.pfx = w.di.pfx := rfl
@[simp] theorem setSib_opszSeen (b : Byte) (w : Work) : (setSib b w).di.opszSeen = w.di.opszSeen := rfl
@[simp] theorem setSib_adszSeen (b : Byte) (w : Work) : (setSib b w).di.adszSeen = w.di.adszSeen := rfl
@[simp] theorem setSib_szovr (b : Byte) (w : Work) : (setSib b w).di.szovr = w.di.szovr := rfl
@[simp] theorem setSib_scale (b : Byte) (w : Work) : (setSib b w).di.scale = 2 ^ (topField b).toNat := rfl
@[simp] theorem setSib_dispSize (b : Byte) (w : Work) : (setSib b w).di.dispSize = w.di.dispSize := rfl
@[simp] theorem setSib_desc (b : Byte) (w : Work) : (setSib b w).di.desc = w.di.desc := rfl
@[simp] theorem setSib_opkey (b : Byte) (w : Work) : (setSib b w).di.opkey = w.di.opkey := rfl
@[simp] theorem setSib_opb (b : Byte) (w : Work) : (setSib b w).di.opb = w.di.opb := rfl
@[simp] theorem setSib_mod (b : Byte) (w : Work) : (setSib b w).di.mod = w.di.mod := rfl
@[simp] theorem setSib_reg (b : Byte) (w : Work) : (setSib b w).di.reg = w.di.reg := rfl
@[simp] theorem setSib_rm (b : Byte) (w : Work) : (setSib b w).di.rm = w.di.rm := rfl
@[simp] theorem setSib_index (b : Byte) (w : Work) : (setSib b w).di.index = some (midField b) := rfl
@[simp] theorem setSib_base (b : Byte) (w : Work) : (setSib b w).di.base = some (lowField b) := rfl
@[simp] theorem setSib_disp (b : Byte) (w : Work) : (setSib b w).di.disp = w.di.disp := rfl
@[simp] theorem setSib_imm (b : Byte) (w : Work) : (setSib b w).di.imm = w.di.imm := rfl

/-! A stage that goes on. -/

@[simp] theorem Flow.state_go_pos (w : Work) : (Flow.go w).state.pos = w.ctx.pos := rfl
@[simp] theorem Flow.state_go_start (w : Work) : (Flow.go w).state.start = w.ctx.start := rfl
@[simp] theorem Flow.state_go_pe (w : Work) : (Flow.go w).state.pe = w.ctx.pe := rfl
@[simp] theorem Flow.state_go_dflag (w : Work) : (Flow.go w).state.dflag = w.ctx.dflag := rfl
@[simp] theorem Flow.state_go_defOpsize (w : Work) : (Flow.go w).state.defOpsize = w.ctx.defOpsize := rfl
@[simp] theorem Flow.state_go_defAdsize (w : Work) : (Flow.go w).state.defAdsize = w.ctx.defAdsize := rfl
@[simp] theorem Flow.state_go_src (w : Work) : (Flow.go w).state.src = w.ctx.src := rfl
@[simp] theorem Flow.state_go_srcLen (w : Work) : (Flow.go w).state.srcLen = w.ctx.srcLen := rfl
@[simp] theorem Flow.state_go_tables (w : Work) : (Flow.go w).state.tables = w.ctx.tables := rfl
@[simp] theorem Flow.state_go_immExt (w : Work) : (Flow.go w).state.immExt = w.ctx.immExt := rfl
@[simp] theorem Flow.state_go_vbase (w : Work) : (Flow.go w).state.vbase = w.ctx.vbase := rfl
@[simp] theorem Flow.state_go_fmtDefs (w : Work) : (Flow.go w).state.fmtDefs = w.ctx.fmtDefs := rfl
@[simp] theorem Flow.state_go_refusalMark (w : Work) : (Flow.go w).state.refusalMark = w.ctx.refusalMark := rfl
@[simp] theorem Flow.state_go_faultMark (w : Work) : (Flow.go w).state.faultMark = w.ctx.faultMark := rfl
@[simp] theorem Flow.state_go_requests (w : Work) : (Flow.go w).state.requests = w.ctx.requests := rfl
@[simp] theorem Flow.state_go_reply (w : Work) : (Flow.go w).state.reply = w.ctx.reply := rfl
@[simp] theorem Flow.state_go_setStatus (w : Work) : (Flow.go w).state.setStatus = w.ctx.setStatus := rfl
@[simp] theorem Flow.state_go_di (w : Work) : (Flow.go w).state.di = some w.di := rfl
@[simp] theorem Flow.state_go_status (w : Work) : (Flow.go w).state.status = none := rfl

/-! recompute. -/

@[simp] theorem recompute_pos  (s : State) : (recompute s).pos = s.pos := rfl
@[simp] theorem recompute_start  (s : State) : (recompute s).start = s.start := rfl
@[simp] theorem recompute_pe  (s : State) : (recompute s).pe = s.pe := rfl
@[simp] theorem recompute_dflag  (s : State) : (recompute s).dflag = s.dflag := rfl
@[simp] theorem recompute_defOpsize  (s : State) : (recompute s).defOpsize = defaultSize s.pe s.dflag := rfl
@[simp] theorem recompute_defAdsize  (s : State) : (recompute s).defAdsize = defaultSize s.pe s.dflag := rfl
@[simp] theorem recompute_di  (s : State) : (recompute s).di = s.di := rfl
@[simp] theorem recompute_status  (s : State) : (recompute s).status = s.status := rfl
@[simp] theorem recompute_src  (s : State) : (recompute s).src = s.src := rfl
@[simp] theorem recompute_srcLen  (s : State) : (recompute s).srcLen = s.srcLen := rfl
@[simp] theorem recompute_tables  (s : State) : (recompute s).tables = s.tables := rfl
@[simp] theorem recompute_immExt  (s : State) : (recompute s).immExt = s.immExt := rfl
@[simp] theorem recompute_vbase  (s : State) : (recompute s).vbase = s.vbase := rfl
@[simp] theorem recompute_fmtDefs  (s : State) : (recompute s).fmtDefs = s.fmtDefs := rfl
@[simp] theorem recompute_refusalMark  (s : State) : (recompute s).refusalMark = s.refusalMark := rfl
@[simp] theorem recompute_faultMark  (s : State) : (recompute s).faultMark = s.faultMark := rfl
@[simp] theorem recompute_requests  (s : State) : (recompute s).requests = s.requests := rfl
@[simp] theorem recompute_reply  (s : State) : (recompute s).reply = s.reply := rfl
@[simp] theorem recompute_setStatus  (s : State) : (recompute s).setStatus = s.setStatus := rfl

/-! refuseRequest. -/

@[simp] theorem refuseRequest_pos  (s : State) : (refuseRequest s).pos = s.pos := rfl
@[simp] theorem refuseRequest_start  (s : State) : (refuseRequest s).start = s.start := rfl
@[simp] theorem refuseRequest_pe  (s : State) : (refuseRequest s).pe = s.pe := rfl
@[simp] theorem refuseRequest_dflag  (s : State) : (refuseRequest s).dflag = s.dflag := rfl
@[simp] theorem refuseRequest_defOpsize  (s : State) : (refuseRequest s).defOpsize = s.defOpsize := rfl
@[simp] theorem refuseRequest_defAdsize  (s : State) : (refuseRequest s).defAdsize = s.defAdsize := rfl
@[simp] theorem refuseRequest_di  (s : State) : (refuseRequest s).di = s.di := rfl
@[simp] theorem refuseRequest_status  (s : State) : (refuseRequest s).status = s.status := rfl
@[simp] theorem refuseRequest_src  (s : State) : (refuseRequest s).src = s.src := rfl
@[simp] theorem refuseRequest_srcLen  (s : State) : (refuseRequest s).srcLen = s.srcLen := rfl
@[simp] theorem refuseRequest_tables  (s : State) : (refuseRequest s).tables = s.tables := rfl
@[simp] theorem refuseRequest_immExt  (s : State) : (refuseRequest s).immExt = s.immExt := rfl
@[simp] theorem refuseRequest_vbase  (s : State) : (refuseRequest s).vbase = s.vbase := rfl
@[simp] theorem refuseRequest_fmtDefs  (s : State) : (refuseRequest s).fmtDefs = s.fmtDefs := rfl
@[simp] theorem refuseRequest_refusalMark  (s : State) : (refuseRequest s).refusalMark = true := rfl
@[simp] theorem refuseRequest_faultMark  (s : State) : (refuseRequest s).faultMark = s.faultMark := rfl
@[simp] theorem refuseRequest_requests  (s : State) : (refuseRequest s).requests = s.requests := rfl
@[simp] theorem refuseRequest_reply  (s : State) : (refuseRequest s).reply = s.reply := rfl
@[simp] theorem refuseRequest_setStatus  (s : State) : (refuseRequest s).setStatus = s.setStatus := rfl

/-! setterOk. -/

@[simp] theorem setterOk_pos  (s : State) : (setterOk s).pos = s.pos := rfl
@[simp] theorem setterOk_start  (s : State) : (setterOk s).start = s.start := rfl
@[simp] theorem setterOk_pe  (s : State) : (setterOk s).pe = s.pe := rfl
@[simp] theorem setterOk_dflag  (s : State) : (setterOk s).dflag = s.dflag := rfl
@[simp] theorem setterOk_defOpsize  (s : State) : (setterOk s).defOpsize = s.defOpsize := rfl
@[simp] theorem setterOk_defAdsize  (s : State) : (setterOk s).defAdsize = s.defAdsize := rfl
@[simp] theorem setterOk_di  (s : State) : (setterOk s).di = s.di := rfl
@[simp] theorem setterOk_status  (s : State) : (setterOk s).status = s.status := rfl
@[simp] theorem setterOk_src  (s : State) : (setterOk s).src = s.src := rfl
@[simp] theorem setterOk_srcLen  (s : State) : (setterOk s).srcLen = s.srcLen := rfl
@[simp] theorem setterOk_tables  (s : State) : (setterOk s).tables = s.tables := rfl
@[simp] theorem setterOk_immExt  (s : State) : (setterOk s).immExt = s.immExt := rfl
@[simp] theorem setterOk_vbase  (s : State) : (setterOk s).vbase = s.vbase := rfl
@[simp] theorem setterOk_fmtDefs  (s : State) : (setterOk s).fmtDefs = s.fmtDefs := rfl
@[simp] theorem setterOk_refusalMark  (s : State) : (setterOk s).refusalMark = s.refusalMark := rfl
@[simp] theorem setterOk_faultMark  (s : State) : (setterOk s).faultMark = s.faultMark := rfl
@[simp] theorem setterOk_requests  (s : State) : (setterOk s).requests = s.requests := rfl
@[simp] theorem setterOk_reply  (s : State) : (setterOk s).reply = s.reply := rfl
@[simp] theorem setterOk_setStatus  (s : State) : (setterOk s).setStatus = some .ok := rfl

/-! refuseSetter. -/

@[simp] theorem refuseSetter_pos  (s : State) : (refuseSetter s).pos = s.pos := rfl
@[simp] theorem refuseSetter_start  (s : State) : (refuseSetter s).start = s.start := rfl
@[simp] theorem refuseSetter_pe  (s : State) : (refuseSetter s).pe = s.pe := rfl
@[simp] theorem refuseSetter_dflag  (s : State) : (refuseSetter s).dflag = s.dflag := rfl
@[simp] theorem refuseSetter_defOpsize  (s : State) : (refuseSetter s).defOpsize = s.defOpsize := rfl
@[simp] theorem refuseSetter_defAdsize  (s : State) : (refuseSetter s).defAdsize = s.defAdsize := rfl
@[simp] theorem refuseSetter_di  (s : State) : (refuseSetter s).di = s.di := rfl
@[simp] theorem refuseSetter_status  (s : State) : (refuseSetter s).status = s.status := rfl
@[simp] theorem refuseSetter_src  (s : State) : (refuseSetter s).src = s.src := rfl
@[simp] theorem refuseSetter_srcLen  (s : State) : (refuseSetter s).srcLen = s.srcLen := rfl
@[simp] theorem refuseSetter_tables  (s : State) : (refuseSetter s).tables = s.tables := rfl
@[simp] theorem refuseSetter_immExt  (s : State) : (refuseSetter s).immExt = s.immExt := rfl
@[simp] theorem refuseSetter_vbase  (s : State) : (refuseSetter s).vbase = s.vbase := rfl
@[simp] theorem refuseSetter_fmtDefs  (s : State) : (refuseSetter s).fmtDefs = s.fmtDefs := rfl
@[simp] theorem refuseSetter_refusalMark  (s : State) : (refuseSetter s).refusalMark = true := rfl
@[simp] theorem refuseSetter_faultMark  (s : State) : (refuseSetter s).faultMark = s.faultMark := rfl
@[simp] theorem refuseSetter_requests  (s : State) : (refuseSetter s).requests = s.requests := rfl
@[simp] theorem refuseSetter_reply  (s : State) : (refuseSetter s).reply = s.reply := rfl
@[simp] theorem refuseSetter_setStatus  (s : State) : (refuseSetter s).setStatus = none := rfl

/-! The entry of DECODE. -/

@[simp] theorem enter_pos (s : State) : (enter s).ctx.pos = s.pos := by unfold enter; split <;> rfl
@[simp] theorem enter_pe (s : State) : (enter s).ctx.pe = s.pe := by unfold enter; split <;> rfl
@[simp] theorem enter_dflag (s : State) : (enter s).ctx.dflag = s.dflag := by unfold enter; split <;> rfl
@[simp] theorem enter_defOpsize (s : State) : (enter s).ctx.defOpsize = s.defOpsize := by unfold enter; split <;> rfl
@[simp] theorem enter_defAdsize (s : State) : (enter s).ctx.defAdsize = s.defAdsize := by unfold enter; split <;> rfl
@[simp] theorem enter_src (s : State) : (enter s).ctx.src = s.src := by unfold enter; split <;> rfl
@[simp] theorem enter_srcLen (s : State) : (enter s).ctx.srcLen = s.srcLen := by unfold enter; split <;> rfl
@[simp] theorem enter_tables (s : State) : (enter s).ctx.tables = s.tables := by unfold enter; split <;> rfl
@[simp] theorem enter_immExt (s : State) : (enter s).ctx.immExt = s.immExt := by unfold enter; split <;> rfl
@[simp] theorem enter_vbase (s : State) : (enter s).ctx.vbase = s.vbase := by unfold enter; split <;> rfl
@[simp] theorem enter_fmtDefs (s : State) : (enter s).ctx.fmtDefs = s.fmtDefs := by unfold enter; split <;> rfl
@[simp] theorem enter_refusalMark (s : State) : (enter s).ctx.refusalMark = s.refusalMark := by unfold enter; split <;> rfl
@[simp] theorem enter_faultMark (s : State) : (enter s).ctx.faultMark = s.faultMark := by unfold enter; split <;> rfl
@[simp] theorem enter_requests (s : State) : (enter s).ctx.requests = s.requests := by unfold enter; split <;> rfl
@[simp] theorem enter_reply (s : State) : (enter s).ctx.reply = s.reply := by unfold enter; split <;> rfl
@[simp] theorem enter_setStatus (s : State) : (enter s).ctx.setStatus = s.setStatus := by unfold enter; split <;> rfl

/-- An idle context enters DECODE afresh (R162, R163). -/
theorem enter_idle {s : State} (h : s.status.isSome = true ∨ s.di = none) :
    enter s = ⟨{ s with start := some s.pos }, Di.fresh⟩ := by
  unfold enter
  split
  · rename_i hs hd; simp [hs, hd] at h
  · rfl

/-- A DECODE in progress goes on. -/
theorem enter_inProgress {s : State} {d : Di} (hs : s.status = none) (hd : s.di = some d) : enter s = ⟨s, d⟩ := by
  simp [enter, hs, hd]

/-- Entering a DECODE in progress again changes nothing. -/
@[simp] theorem enter_state_go (w : Work) :
    enter (Flow.go w).state = ⟨{ w.ctx with di := some w.di, status := none }, w.di⟩ := rfl

end Sys2Proof.Machine
end

