-- ==== Sys2Proof/Laws/Stages.lean ====
section
/-! SUPPORT. What each shared operation of DECODE can do, said once: how the cursor moves, what a stage leaves alone, and how it ends. -/

namespace Sys2Proof.Machine

open Sys2Proof.Claims

/-! The cursor. -/

/-- A read that the source can supply (20_memory.md R83). -/
theorem readN_supplied {n : Nat} {w : Work} (hn : n = 1 ∨ n = 2 ∨ n = 4) (h : w.ctx.pos + n ≤ w.ctx.srcLen)
    (k : Nat → Work → Flow) :
    readN n w k = k (w.ctx.src.readLE w.ctx.pos n) ⟨{ w.ctx with pos := w.ctx.pos + n }, w.di⟩ := by
  simp [readN, advance, hn, h]

/-- A short read (R84). -/
theorem readN_short {n : Nat} {w : Work} (hn : n = 1 ∨ n = 2 ∨ n = 4) (h : w.ctx.srcLen < w.ctx.pos + n)
    (k : Nat → Work → Flow) : readN n w k = raise .endOfStream w := by
  simp [readN, advance, hn, Nat.not_le.mpr h, raise]

/-- A width that no read has (R85). -/
theorem readN_width {n : Nat} {w : Work} (hn : ¬(n = 1 ∨ n = 2 ∨ n = 4)) (k : Nat → Work → Flow) :
    readN n w k = raise .configAssert w := by
  simp [readN, advance, hn, raise]

/-- Reading one byte that the source can supply. -/
theorem readByte_supplied {w : Work} (h : w.ctx.pos + 1 ≤ w.ctx.srcLen) (k : Byte → Work → Flow) :
    readByte w k = k (w.ctx.src.read w.ctx.pos) ⟨{ w.ctx with pos := w.ctx.pos + 1 }, w.di⟩ := by
  simp [readByte, readN_supplied (Or.inl rfl) h, Memory.readLE]

/-! What every stage leaves alone. -/

/-- From one point of a DECODE to a later one, at most n bytes on: the mode, the source, the tables, the parameters, the host's
fields, START, the marks and the prefixes are the same, and POS has not passed L. -/
structure Work.Frame (n : Nat) (w w' : Work) : Prop where
  outside : SameOutside w.ctx w'.ctx
  start : w'.ctx.start = w.ctx.start
  fmtDefs : w'.ctx.fmtDefs = w.ctx.fmtDefs
  faultMark : w'.ctx.faultMark = w.ctx.faultMark
  pfx : w'.di.pfx = w.di.pfx
  opszSeen : w'.di.opszSeen = w.di.opszSeen
  adszSeen : w'.di.adszSeen = w.di.adszSeen
  forward : w.ctx.pos ≤ w'.ctx.pos
  bound : w'.ctx.pos ≤ w.ctx.pos + n
  inside : w.ctx.pos ≤ w.ctx.srcLen → w'.ctx.pos ≤ w.ctx.srcLen

theorem SameOutside.refl (s : State) : SameOutside s s := by constructor <;> rfl

theorem SameOutside.trans {s t u : State} (h : SameOutside s t) (h' : SameOutside t u) : SameOutside s u := by
  constructor
  · exact h'.pe.trans h.pe
  · exact h'.dflag.trans h.dflag
  · exact h'.defOpsize.trans h.defOpsize
  · exact h'.defAdsize.trans h.defAdsize
  · exact h'.src.trans h.src
  · exact h'.srcLen.trans h.srcLen
  · exact h'.tables.trans h.tables
  · exact h'.immExt.trans h.immExt
  · exact h'.vbase.trans h.vbase
  · exact h'.refusalMark.trans h.refusalMark
  · exact h'.requests.trans h.requests
  · exact h'.reply.trans h.reply
  · exact h'.setStatus.trans h.setStatus

theorem Work.Frame.refl (w : Work) : Work.Frame 0 w w :=
  ⟨SameOutside.refl _, rfl, rfl, rfl, rfl, rfl, rfl, Nat.le_refl _, Nat.le_refl _, id⟩

theorem Work.Frame.mono {n m : Nat} {w w' : Work} (h : Work.Frame n w w') (hnm : n ≤ m) : Work.Frame m w w' :=
  { h with bound := by have := h.bound; omega }

theorem Work.Frame.trans {n m : Nat} {w w' w'' : Work} (h : Work.Frame n w w') (h' : Work.Frame m w' w'') :
    Work.Frame (n + m) w w'' where
  outside := SameOutside.trans h.outside h'.outside
  start := h'.start.trans h.start
  fmtDefs := h'.fmtDefs.trans h.fmtDefs
  faultMark := h'.faultMark.trans h.faultMark
  pfx := h'.pfx.trans h.pfx
  opszSeen := h'.opszSeen.trans h.opszSeen
  adszSeen := h'.adszSeen.trans h.adszSeen
  forward := Nat.le_trans h.forward h'.forward
  bound := by have := h.bound; have := h'.bound; omega
  inside := fun hp => by
    have := h'.inside (h.outside.srcLen ▸ h.inside hp)
    rwa [h.outside.srcLen] at this

/-- A write to the record's other fields. -/
theorem Work.Frame.setDi {n : Nat} {w w' : Work} (h : Work.Frame n w w') {d : Di} (hp : d.pfx = w'.di.pfx)
    (ho : d.opszSeen = w'.di.opszSeen) (ha : d.adszSeen = w'.di.adszSeen) : Work.Frame n w (w'.setDi d) :=
  { outside := h.outside, start := h.start, fmtDefs := h.fmtDefs, faultMark := h.faultMark
    pfx := hp.trans h.pfx, opszSeen := ho.trans h.opszSeen, adszSeen := ha.trans h.adszSeen
    forward := h.forward, bound := h.bound, inside := h.inside }

/-- A stage that goes on, or ends by raising or by completing, from a point within the frame. -/
def Flow.Frame (n : Nat) (w : Work) : Flow → Prop
  | .go w' => Work.Frame n w w'
  | .ended s => ∃ w', Work.Frame n w w' ∧ ((∃ e, raise e w' = .ended s) ∨ complete w' = .ended s)

theorem Flow.Frame.mono {n m : Nat} {w : Work} {f : Flow} (h : Flow.Frame n w f) (hnm : n ≤ m) : Flow.Frame m w f := by
  cases f with
  | go w' => exact Work.Frame.mono h hnm
  | ended s => obtain ⟨w', h1, h2⟩ := h; exact ⟨w', h1.mono hnm, h2⟩

theorem Flow.Frame.from {n m : Nat} {w w' : Work} {f : Flow} (h : Work.Frame n w w') (hf : Flow.Frame m w' f) :
    Flow.Frame (n + m) w f := by
  cases f with
  | go w'' => exact Work.Frame.trans h hf
  | ended s => obtain ⟨w'', h1, h2⟩ := hf; exact ⟨w'', h.trans h1, h2⟩

/-- A write to the record before a stage reads nothing. -/
theorem Flow.Frame.write {m : Nat} {w w' : Work} {f : Flow} (h : Work.Frame 0 w w') (hf : Flow.Frame m w' f) :
    Flow.Frame m w f := (Flow.Frame.from h hf).mono (Nat.le_of_eq (Nat.zero_add m))

theorem Flow.Frame.andThen {n m : Nat} {w : Work} {f : Flow} {k : Work → Flow} (h : Flow.Frame n w f)
    (hk : ∀ w', Flow.Frame m w' (k w')) : Flow.Frame (n + m) w (f.andThen k) := by
  cases f with
  | go w' => exact Flow.Frame.from h (hk w')
  | ended s => exact Flow.Frame.mono h (Nat.le_add_right n m)

theorem raise_frame (e : Status) (w : Work) : Flow.Frame 0 w (raise e w) := ⟨w, .refl w, .inl ⟨e, rfl⟩⟩

theorem complete_frame (w : Work) : Flow.Frame 0 w (complete w) := ⟨w, .refl w, .inr rfl⟩

/-- The cursor moves by n or the DECODE ends where it is. -/
theorem advance_frame (n : Nat) (w : Work) : Flow.Frame n w (advance n w) := by
  unfold advance
  split
  · split
    · rename_i h
      exact ⟨by constructor <;> rfl, rfl, rfl, rfl, rfl, rfl, rfl, Nat.le_add_right _ _, Nat.le_refl _, fun _ => h⟩
    · exact (raise_frame _ w).mono (Nat.zero_le n)
  · exact (raise_frame _ w).mono (Nat.zero_le n)

theorem readN_frame {n m : Nat} {w : Work} {k : Nat → Work → Flow} (hk : ∀ v w', Flow.Frame m w' (k v w')) :
    Flow.Frame (n + m) w (readN n w k) :=
  (advance_frame n w).andThen (hk _)

theorem readByte_frame {m : Nat} {w : Work} {k : Byte → Work → Flow} (hk : ∀ b w', Flow.Frame m w' (k b w')) :
    Flow.Frame (1 + m) w (readByte w k) :=
  readN_frame fun v w' => hk (BitVec.ofNat 8 v) w'

/-- A write to the record that leaves the prefixes alone. -/
theorem setDi_frame {w : Work} {d : Di} (hp : d.pfx = w.di.pfx) (ho : d.opszSeen = w.di.opszSeen)
    (ha : d.adszSeen = w.di.adszSeen) : Work.Frame 0 w (w.setDi d) := (Work.Frame.refl w).setDi hp ho ha

theorem setModRm_frame (b : Byte) (w : Work) : Work.Frame 0 w (setModRm b w) := setDi_frame rfl rfl rfl

theorem setSib_frame (b : Byte) (w : Work) : Work.Frame 0 w (setSib b w) := setDi_frame rfl rfl rfl

theorem readDisp_frame (n : Nat) (c : SizeClass) (w : Work) : Flow.Frame n w (readDisp n c w) :=
  readN_frame (m := 0) fun _ _ => setDi_frame rfl rfl rfl

theorem disp32_frame (mod : BitVec 2) (rm : BitVec 3) (w : Work) : Flow.Frame 4 w (disp32 mod rm w) := by
  unfold disp32
  split
  · exact readDisp_frame 4 _ w
  split
  · exact (readDisp_frame 1 _ w).mono (by omega)
  split
  · exact readDisp_frame 4 _ w
  · exact (Work.Frame.refl w).mono (by omega)

theorem disp16_frame (mod : BitVec 2) (rm : BitVec 3) (w : Work) : Flow.Frame 4 w (disp16 mod rm w) := by
  unfold disp16
  split
  · exact (readDisp_frame 2 _ w).mono (by omega)
  split
  · exact (readDisp_frame 1 _ w).mono (by omega)
  split
  · exact (readDisp_frame 2 _ w).mono (by omega)
  · exact (Work.Frame.refl w).mono (by omega)

theorem addressing_frame (a : SizeClass) (mod : BitVec 2) (rm : BitVec 3) (w : Work) :
    Flow.Frame 5 w (addressing a mod rm w) := by
  unfold addressing
  split
  · split
    · exact readByte_frame (m := 4) fun b w' => Flow.Frame.write (setSib_frame b w') (disp32_frame mod rm _)
    · exact (disp32_frame mod rm w).mono (by omega)
  · exact (disp16_frame mod rm w).mono (by omega)
  · exact (raise_frame _ w).mono (by omega)

/-- The ModR/M, SIB and displacement bytes are at most six (40_decode_pipeline.md R199). -/
theorem modRm_frame (d : Desc) (w : Work) : Flow.Frame 6 w (modRm d w) :=
  readByte_frame (m := 5) fun b w' => by
    refine Flow.Frame.write (setModRm_frame b w') ?_
    simp only []
    split
    · exact (Work.Frame.refl _).mono (by omega)
    · exact addressing_frame _ _ _ _

theorem modRmStage_frame (d : Desc) (w : Work) : Flow.Frame 6 w (modRmStage d w) := by
  unfold modRmStage
  split
  · exact modRm_frame d w
  · exact (Work.Frame.refl w).mono (by omega)

theorem readImm_frame (n : Nat) (f : Nat → Word) (w : Work) : Flow.Frame n w (readImm n f w) :=
  readN_frame (m := 0) fun _ _ => setDi_frame rfl rfl rfl

/-- bytes(s) is at most 8, and only a read of at most 4 bytes moves the cursor. -/
theorem readImm_frame_four (n : Nat) (f : Nat → Word) (w : Work) : Flow.Frame 4 w (readImm n f w) := by
  by_cases hn : n ≤ 4
  · exact (readImm_frame n f w).mono hn
  · rw [readImm, readN_width (by omega)]
    exact (raise_frame _ w).mono (by omega)

/-- One tag reads at most four bytes, and only an immediate-class tag reads any. -/
theorem extractTag_frame (d : Desc) (t : Tag) (w : Work) :
    Flow.Frame (if t.immediate then 4 else 0) w (extractTag d t w) := by
  have hz {w' : Work} (h : Work.Frame 0 w w') : Flow.Frame 0 w (.go w') := h
  cases t <;> first
    | exact hz (setDi_frame rfl rfl rfl)
    | exact hz (Work.Frame.refl w)
    | exact readImm_frame_four _ _ w

/-- The operand extractor. -/
theorem extractTags_frame (d : Desc) (ts : List Tag) (w : Work) :
    Flow.Frame (4 * (ts.filter Tag.immediate).length) w (extractTags d ts w) := by
  induction ts generalizing w with
  | nil => exact Work.Frame.refl w
  | cons t ts ih =>
    have hstep : Flow.Frame (4 * ((t :: ts).filter Tag.immediate).length) w
        ((extractTag d t w).andThen (extractTags d ts)) := by
      refine Flow.Frame.mono ((extractTag_frame d t w).andThen ih) ?_
      by_cases h : t.immediate
      · simp [h]; omega
      · simp [h]
    cases t
    case none => exact (Work.Frame.refl w).mono (Nat.zero_le _)
    all_goals exact hstep

theorem select_frame (ref : DescRef) (key : Nat) (d : Desc) (w : Work) : Work.Frame 0 w (select ref key d w) :=
  setDi_frame rfl rfl rfl

theorem latchOpcode_frame (b : Byte) (w : Work) : Work.Frame 0 w (latchOpcode b w) := setDi_frame rfl rfl rfl

theorem lookupFailed_frame (key : Nat) (e : Status) (w : Work) : Flow.Frame 0 w (lookupFailed key e w) :=
  Flow.Frame.write (w' := w.setDi { w.di with opkey := some key, desc := some .null }) (setDi_frame rfl rfl rfl)
    (raise_frame e _)

/-- The operand stage always ends the DECODE. -/
theorem operandStage_frame (d : Desc) (w : Work) :
    Flow.Frame (4 * (d.tags.filter Tag.immediate).length) w (operandStage d w) :=
  (extractTags_frame d d.tags w).andThen (m := 0) complete_frame

/-- The rest of DECODE after the opcode bytes of a row without a group. -/
theorem finishRow_frame (ref : DescRef) (key : Nat) (d : Desc) (w : Work) :
    Flow.Frame (6 + 4 * (d.tags.filter Tag.immediate).length) w (finishRow ref key d w) := by
  refine Flow.Frame.write (select_frame ref key d w) ?_
  exact (modRmStage_frame d _).andThen (operandStage_frame d)

/-- The rest of DECODE after the opcode bytes of a group member. -/
theorem finishMember_frame (ref : DescRef) (primary : Nat) (p : Desc) (digit : Nat) (d : Desc) (w : Work) :
    Flow.Frame (6 + 4 * (d.tags.filter Tag.immediate).length) w (finishMember ref primary p digit d w) := by
  refine Flow.Frame.write (select_frame ref primary p w) ?_
  exact (modRmStage_frame p _).andThen fun w' =>
    Flow.Frame.write (select_frame _ _ d w') (operandStage_frame d _)

/-- Group resolution reads nothing. -/
theorem resolveGroup_frame (tg : Nat → Option Desc) (primary : Nat) (w : Work) :
    Flow.Frame 0 w (resolveGroup tg primary w) := by
  unfold resolveGroup
  split
  · split
    · exact select_frame _ _ _ w
    · exact lookupFailed_frame _ _ w
  · exact lookupFailed_frame _ _ w

end Sys2Proof.Machine
end

