-- ==== Sys2Proof/Laws/Rows.lean ====
section
/-! SUPPORT. The rows of the opcode table by form: which shared operation each row's meaning is, so that a proof over all rows has a
few cases; and that REF is well-formed. -/

namespace Sys2Proof.Machine

/-- REF satisfies W1 to W12 (30_encoding.md R130). -/
theorem refTables_wf : refTables.wf = true := by decide +kernel

/-- The shared operation that a row's meaning is, with what its descriptor guarantees. -/
inductive ExecForm (i : Instr) : Prop where
  | prefixRow (bit : Nat) (hbit : bit < 11) (h : exec i = prefixRow bit)
  | escape (h : exec i = escapeRow (rowAt refT2))
  | oneByteDispatch (b : Byte) (p : Desc) (hp : p.group = true) (h : exec i = oneByteDispatch (rowAt refTG) b p)
  | twoByteDispatch (b : Byte) (p : Desc) (hp : p.group = true) (h : exec i = twoByteDispatch (rowAt refTG) b p)
  | oneByte (b : Byte) (d : Desc) (hd : d.wf = true) (hg : d.group = false) (h : exec i = oneByte b d)
  | oneByteReg (b : Byte) (d : Desc) (hd : d.wf = true) (hg : d.group = false) (h : exec i = oneByteReg b d)
  | twoByte (b : Byte) (d : Desc) (hd : d.wf = true) (hg : d.group = false) (h : exec i = twoByte b d)
  | twoByteReg (b : Byte) (d : Desc) (hd : d.wf = true) (hg : d.group = false) (h : exec i = twoByteReg b d)
  | oneByteMember (b : Byte) (p : Desc) (n : Nat) (d : Desc) (hp : p.group = true) (hd : d.wf = true) (hg : d.group = false)
      (h : exec i = oneByteMember b p n d)
  | twoByteMember (b : Byte) (p : Desc) (n : Nat) (d : Desc) (hp : p.group = true) (hd : d.wf = true) (hg : d.group = false)
      (h : exec i = twoByteMember b p n d)
  | hardCoded (b : Byte) (d : Desc) (hd : d.wf = true) (hg : d.group = false) (h : exec i = hardCoded b d)

/-- Every row's meaning is one of them. -/
theorem exec_form (i : Instr) : ExecForm i :=
  match i with
  | .prefixLock => .prefixRow 0 (by decide) (funext fun _ => rfl)
  | .prefixRepnz => .prefixRow 1 (by decide) (funext fun _ => rfl)
  | .prefixRepz => .prefixRow 2 (by decide) (funext fun _ => rfl)
  | .prefixEs => .prefixRow 3 (by decide) (funext fun _ => rfl)
  | .prefixCs => .prefixRow 4 (by decide) (funext fun _ => rfl)
  | .prefixSs => .prefixRow 5 (by decide) (funext fun _ => rfl)
  | .prefixDs => .prefixRow 6 (by decide) (funext fun _ => rfl)
  | .prefixFs => .prefixRow 7 (by decide) (funext fun _ => rfl)
  | .prefixGs => .prefixRow 8 (by decide) (funext fun _ => rfl)
  | .prefixOpsize => .prefixRow 9 (by decide) (funext fun _ => rfl)
  | .prefixAdsize => .prefixRow 10 (by decide) (funext fun _ => rfl)
  | .escape0F => .escape (funext fun _ => rfl)
  | .add00 => .oneByte 0x00 Ref.add00 rfl rfl (funext fun _ => rfl)
  | .add01 => .oneByte 0x01 Ref.add01 rfl rfl (funext fun _ => rfl)
  | .add02 => .oneByte 0x02 Ref.add02 rfl rfl (funext fun _ => rfl)
  | .add03 => .oneByte 0x03 Ref.add03 rfl rfl (funext fun _ => rfl)
  | .add04 => .oneByte 0x04 Ref.add04 rfl rfl (funext fun _ => rfl)
  | .add05 => .oneByte 0x05 Ref.add05 rfl rfl (funext fun _ => rfl)
  | .or08 => .oneByte 0x08 Ref.or08 rfl rfl (funext fun _ => rfl)
  | .or09 => .oneByte 0x09 Ref.or09 rfl rfl (funext fun _ => rfl)
  | .or0A => .oneByte 0x0A Ref.or0A rfl rfl (funext fun _ => rfl)
  | .or0B => .oneByte 0x0B Ref.or0B rfl rfl (funext fun _ => rfl)
  | .or0C => .oneByte 0x0C Ref.or0C rfl rfl (funext fun _ => rfl)
  | .or0D => .oneByte 0x0D Ref.or0D rfl rfl (funext fun _ => rfl)
  | .adc10 => .oneByte 0x10 Ref.adc10 rfl rfl (funext fun _ => rfl)
  | .adc11 => .oneByte 0x11 Ref.adc11 rfl rfl (funext fun _ => rfl)
  | .adc12 => .oneByte 0x12 Ref.adc12 rfl rfl (funext fun _ => rfl)
  | .adc13 => .oneByte 0x13 Ref.adc13 rfl rfl (funext fun _ => rfl)
  | .adc14 => .oneByte 0x14 Ref.adc14 rfl rfl (funext fun _ => rfl)
  | .adc15 => .oneByte 0x15 Ref.adc15 rfl rfl (funext fun _ => rfl)
  | .sbb18 => .oneByte 0x18 Ref.sbb18 rfl rfl (funext fun _ => rfl)
  | .sbb19 => .oneByte 0x19 Ref.sbb19 rfl rfl (funext fun _ => rfl)
  | .sbb1A => .oneByte 0x1A Ref.sbb1A rfl rfl (funext fun _ => rfl)
  | .sbb1B => .oneByte 0x1B Ref.sbb1B rfl rfl (funext fun _ => rfl)
  | .sbb1C => .oneByte 0x1C Ref.sbb1C rfl rfl (funext fun _ => rfl)
  | .sbb1D => .oneByte 0x1D Ref.sbb1D rfl rfl (funext fun _ => rfl)
  | .and20 => .oneByte 0x20 Ref.and20 rfl rfl (funext fun _ => rfl)
  | .and21 => .oneByte 0x21 Ref.and21 rfl rfl (funext fun _ => rfl)
  | .and22 => .oneByte 0x22 Ref.and22 rfl rfl (funext fun _ => rfl)
  | .and23 => .oneByte 0x23 Ref.and23 rfl rfl (funext fun _ => rfl)
  | .and24 => .oneByte 0x24 Ref.and24 rfl rfl (funext fun _ => rfl)
  | .and25 => .oneByte 0x25 Ref.and25 rfl rfl (funext fun _ => rfl)
  | .sub28 => .oneByte 0x28 Ref.sub28 rfl rfl (funext fun _ => rfl)
  | .sub29 => .oneByte 0x29 Ref.sub29 rfl rfl (funext fun _ => rfl)
  | .sub2A => .oneByte 0x2A Ref.sub2A rfl rfl (funext fun _ => rfl)
  | .sub2B => .oneByte 0x2B Ref.sub2B rfl rfl (funext fun _ => rfl)
  | .sub2C => .oneByte 0x2C Ref.sub2C rfl rfl (funext fun _ => rfl)
  | .sub2D => .oneByte 0x2D Ref.sub2D rfl rfl (funext fun _ => rfl)
  | .xor30 => .oneByte 0x30 Ref.xor30 rfl rfl (funext fun _ => rfl)
  | .xor31 => .oneByte 0x31 Ref.xor31 rfl rfl (funext fun _ => rfl)
  | .xor32 => .oneByte 0x32 Ref.xor32 rfl rfl (funext fun _ => rfl)
  | .xor33 => .oneByte 0x33 Ref.xor33 rfl rfl (funext fun _ => rfl)
  | .xor34 => .oneByte 0x34 Ref.xor34 rfl rfl (funext fun _ => rfl)
  | .xor35 => .oneByte 0x35 Ref.xor35 rfl rfl (funext fun _ => rfl)
  | .cmp38 => .oneByte 0x38 Ref.cmp38 rfl rfl (funext fun _ => rfl)
  | .cmp39 => .oneByte 0x39 Ref.cmp39 rfl rfl (funext fun _ => rfl)
  | .cmp3A => .oneByte 0x3A Ref.cmp3A rfl rfl (funext fun _ => rfl)
  | .cmp3B => .oneByte 0x3B Ref.cmp3B rfl rfl (funext fun _ => rfl)
  | .cmp3C => .oneByte 0x3C Ref.cmp3C rfl rfl (funext fun _ => rfl)
  | .cmp3D => .oneByte 0x3D Ref.cmp3D rfl rfl (funext fun _ => rfl)
  | .push06 => .oneByte 0x06 Ref.push06 rfl rfl (funext fun _ => rfl)
  | .push0E => .oneByte 0x0E Ref.push0E rfl rfl (funext fun _ => rfl)
  | .push16 => .oneByte 0x16 Ref.push16 rfl rfl (funext fun _ => rfl)
  | .push1E => .oneByte 0x1E Ref.push1E rfl rfl (funext fun _ => rfl)
  | .pop07 => .oneByte 0x07 Ref.pop07 rfl rfl (funext fun _ => rfl)
  | .pop17 => .oneByte 0x17 Ref.pop17 rfl rfl (funext fun _ => rfl)
  | .pop1F => .oneByte 0x1F Ref.pop1F rfl rfl (funext fun _ => rfl)
  | .daa27 => .oneByte 0x27 Ref.daa27 rfl rfl (funext fun _ => rfl)
  | .das2F => .oneByte 0x2F Ref.das2F rfl rfl (funext fun _ => rfl)
  | .aaa37 => .oneByte 0x37 Ref.aaa37 rfl rfl (funext fun _ => rfl)
  | .aas3F => .oneByte 0x3F Ref.aas3F rfl rfl (funext fun _ => rfl)
  | .inc40 => .oneByteReg 0x40 Ref.inc40 rfl rfl (funext fun _ => rfl)
  | .dec48 => .oneByteReg 0x48 Ref.dec48 rfl rfl (funext fun _ => rfl)
  | .push50 => .oneByteReg 0x50 Ref.push50 rfl rfl (funext fun _ => rfl)
  | .pop58 => .oneByteReg 0x58 Ref.pop58 rfl rfl (funext fun _ => rfl)
  | .pusha60 => .oneByte 0x60 Ref.pusha60 rfl rfl (funext fun _ => rfl)
  | .popa61 => .oneByte 0x61 Ref.popa61 rfl rfl (funext fun _ => rfl)
  | .bound62 => .oneByte 0x62 Ref.bound62 rfl rfl (funext fun _ => rfl)
  | .arpl63 => .oneByte 0x63 Ref.arpl63 rfl rfl (funext fun _ => rfl)
  | .push68 => .oneByte 0x68 Ref.push68 rfl rfl (funext fun _ => rfl)
  | .imul69 => .oneByte 0x69 Ref.imul69 rfl rfl (funext fun _ => rfl)
  | .push6A => .oneByte 0x6A Ref.push6A rfl rfl (funext fun _ => rfl)
  | .imul6B => .oneByte 0x6B Ref.imul6B rfl rfl (funext fun _ => rfl)
  | .ins6C => .oneByte 0x6C Ref.ins6C rfl rfl (funext fun _ => rfl)
  | .ins6D => .oneByte 0x6D Ref.ins6D rfl rfl (funext fun _ => rfl)
  | .outs6E => .oneByte 0x6E Ref.outs6E rfl rfl (funext fun _ => rfl)
  | .outs6F => .oneByte 0x6F Ref.outs6F rfl rfl (funext fun _ => rfl)
  | .jo70 => .oneByte 0x70 Ref.jo70 rfl rfl (funext fun _ => rfl)
  | .jno71 => .oneByte 0x71 Ref.jno71 rfl rfl (funext fun _ => rfl)
  | .jb72 => .oneByte 0x72 Ref.jb72 rfl rfl (funext fun _ => rfl)
  | .jae73 => .oneByte 0x73 Ref.jae73 rfl rfl (funext fun _ => rfl)
  | .je74 => .oneByte 0x74 Ref.je74 rfl rfl (funext fun _ => rfl)
  | .jne75 => .oneByte 0x75 Ref.jne75 rfl rfl (funext fun _ => rfl)
  | .jbe76 => .oneByte 0x76 Ref.jbe76 rfl rfl (funext fun _ => rfl)
  | .ja77 => .oneByte 0x77 Ref.ja77 rfl rfl (funext fun _ => rfl)
  | .js78 => .oneByte 0x78 Ref.js78 rfl rfl (funext fun _ => rfl)
  | .jns79 => .oneByte 0x79 Ref.jns79 rfl rfl (funext fun _ => rfl)
  | .jp7A => .oneByte 0x7A Ref.jp7A rfl rfl (funext fun _ => rfl)
  | .jnp7B => .oneByte 0x7B Ref.jnp7B rfl rfl (funext fun _ => rfl)
  | .jl7C => .oneByte 0x7C Ref.jl7C rfl rfl (funext fun _ => rfl)
  | .jge7D => .oneByte 0x7D Ref.jge7D rfl rfl (funext fun _ => rfl)
  | .jle7E => .oneByte 0x7E Ref.jle7E rfl rfl (funext fun _ => rfl)
  | .jg7F => .oneByte 0x7F Ref.jg7F rfl rfl (funext fun _ => rfl)
  | .dispatch80 => .oneByteDispatch 0x80 Ref.dispatch80 rfl (funext fun _ => rfl)
  | .add80_0 => .oneByteMember 0x80 Ref.dispatch80 0 Ref.add80_0 rfl rfl rfl (funext fun _ => rfl)
  | .or80_1 => .oneByteMember 0x80 Ref.dispatch80 1 Ref.or80_1 rfl rfl rfl (funext fun _ => rfl)
  | .adc80_2 => .oneByteMember 0x80 Ref.dispatch80 2 Ref.adc80_2 rfl rfl rfl (funext fun _ => rfl)
  | .sbb80_3 => .oneByteMember 0x80 Ref.dispatch80 3 Ref.sbb80_3 rfl rfl rfl (funext fun _ => rfl)
  | .and80_4 => .oneByteMember 0x80 Ref.dispatch80 4 Ref.and80_4 rfl rfl rfl (funext fun _ => rfl)
  | .sub80_5 => .oneByteMember 0x80 Ref.dispatch80 5 Ref.sub80_5 rfl rfl rfl (funext fun _ => rfl)
  | .xor80_6 => .oneByteMember 0x80 Ref.dispatch80 6 Ref.xor80_6 rfl rfl rfl (funext fun _ => rfl)
  | .cmp80_7 => .oneByteMember 0x80 Ref.dispatch80 7 Ref.cmp80_7 rfl rfl rfl (funext fun _ => rfl)
  | .dispatch81 => .oneByteDispatch 0x81 Ref.dispatch81 rfl (funext fun _ => rfl)
  | .add81_0 => .oneByteMember 0x81 Ref.dispatch81 0 Ref.add81_0 rfl rfl rfl (funext fun _ => rfl)
  | .or81_1 => .oneByteMember 0x81 Ref.dispatch81 1 Ref.or81_1 rfl rfl rfl (funext fun _ => rfl)
  | .adc81_2 => .oneByteMember 0x81 Ref.dispatch81 2 Ref.adc81_2 rfl rfl rfl (funext fun _ => rfl)
  | .sbb81_3 => .oneByteMember 0x81 Ref.dispatch81 3 Ref.sbb81_3 rfl rfl rfl (funext fun _ => rfl)
  | .and81_4 => .oneByteMember 0x81 Ref.dispatch81 4 Ref.and81_4 rfl rfl rfl (funext fun _ => rfl)
  | .sub81_5 => .oneByteMember 0x81 Ref.dispatch81 5 Ref.sub81_5 rfl rfl rfl (funext fun _ => rfl)
  | .xor81_6 => .oneByteMember 0x81 Ref.dispatch81 6 Ref.xor81_6 rfl rfl rfl (funext fun _ => rfl)
  | .cmp81_7 => .oneByteMember 0x81 Ref.dispatch81 7 Ref.cmp81_7 rfl rfl rfl (funext fun _ => rfl)
  | .dispatch82 => .oneByteDispatch 0x82 Ref.dispatch82 rfl (funext fun _ => rfl)
  | .add82_0 => .oneByteMember 0x82 Ref.dispatch82 0 Ref.add82_0 rfl rfl rfl (funext fun _ => rfl)
  | .or82_1 => .oneByteMember 0x82 Ref.dispatch82 1 Ref.or82_1 rfl rfl rfl (funext fun _ => rfl)
  | .adc82_2 => .oneByteMember 0x82 Ref.dispatch82 2 Ref.adc82_2 rfl rfl rfl (funext fun _ => rfl)
  | .sbb82_3 => .oneByteMember 0x82 Ref.dispatch82 3 Ref.sbb82_3 rfl rfl rfl (funext fun _ => rfl)
  | .and82_4 => .oneByteMember 0x82 Ref.dispatch82 4 Ref.and82_4 rfl rfl rfl (funext fun _ => rfl)
  | .sub82_5 => .oneByteMember 0x82 Ref.dispatch82 5 Ref.sub82_5 rfl rfl rfl (funext fun _ => rfl)
  | .xor82_6 => .oneByteMember 0x82 Ref.dispatch82 6 Ref.xor82_6 rfl rfl rfl (funext fun _ => rfl)
  | .cmp82_7 => .oneByteMember 0x82 Ref.dispatch82 7 Ref.cmp82_7 rfl rfl rfl (funext fun _ => rfl)
  | .dispatch83 => .oneByteDispatch 0x83 Ref.dispatch83 rfl (funext fun _ => rfl)
  | .add83_0 => .oneByteMember 0x83 Ref.dispatch83 0 Ref.add83_0 rfl rfl rfl (funext fun _ => rfl)
  | .or83_1 => .oneByteMember 0x83 Ref.dispatch83 1 Ref.or83_1 rfl rfl rfl (funext fun _ => rfl)
  | .adc83_2 => .oneByteMember 0x83 Ref.dispatch83 2 Ref.adc83_2 rfl rfl rfl (funext fun _ => rfl)
  | .sbb83_3 => .oneByteMember 0x83 Ref.dispatch83 3 Ref.sbb83_3 rfl rfl rfl (funext fun _ => rfl)
  | .and83_4 => .oneByteMember 0x83 Ref.dispatch83 4 Ref.and83_4 rfl rfl rfl (funext fun _ => rfl)
  | .sub83_5 => .oneByteMember 0x83 Ref.dispatch83 5 Ref.sub83_5 rfl rfl rfl (funext fun _ => rfl)
  | .xor83_6 => .oneByteMember 0x83 Ref.dispatch83 6 Ref.xor83_6 rfl rfl rfl (funext fun _ => rfl)
  | .cmp83_7 => .oneByteMember 0x83 Ref.dispatch83 7 Ref.cmp83_7 rfl rfl rfl (funext fun _ => rfl)
  | .test84 => .oneByte 0x84 Ref.test84 rfl rfl (funext fun _ => rfl)
  | .test85 => .oneByte 0x85 Ref.test85 rfl rfl (funext fun _ => rfl)
  | .xchg86 => .oneByte 0x86 Ref.xchg86 rfl rfl (funext fun _ => rfl)
  | .xchg87 => .oneByte 0x87 Ref.xchg87 rfl rfl (funext fun _ => rfl)
  | .mov88 => .oneByte 0x88 Ref.mov88 rfl rfl (funext fun _ => rfl)
  | .mov89 => .oneByte 0x89 Ref.mov89 rfl rfl (funext fun _ => rfl)
  | .mov8A => .oneByte 0x8A Ref.mov8A rfl rfl (funext fun _ => rfl)
  | .mov8B => .oneByte 0x8B Ref.mov8B rfl rfl (funext fun _ => rfl)
  | .mov8C => .oneByte 0x8C Ref.mov8C rfl rfl (funext fun _ => rfl)
  | .lea8D => .oneByte 0x8D Ref.lea8D rfl rfl (funext fun _ => rfl)
  | .mov8E => .oneByte 0x8E Ref.mov8E rfl rfl (funext fun _ => rfl)
  | .dispatch8F => .oneByteDispatch 0x8F Ref.dispatch8F rfl (funext fun _ => rfl)
  | .pop8F_0 => .oneByteMember 0x8F Ref.dispatch8F 0 Ref.pop8F_0 rfl rfl rfl (funext fun _ => rfl)
  | .nop90 => .oneByte 0x90 Ref.nop90 rfl rfl (funext fun _ => rfl)
  | .xchg91 => .oneByteReg 0x90 Ref.xchg91 rfl rfl (funext fun _ => rfl)
  | .cwde98 => .oneByte 0x98 Ref.cwde98 rfl rfl (funext fun _ => rfl)
  | .cdq99 => .oneByte 0x99 Ref.cdq99 rfl rfl (funext fun _ => rfl)
  | .fwait9B => .oneByte 0x9B Ref.fwait9B rfl rfl (funext fun _ => rfl)
  | .pushf9C => .oneByte 0x9C Ref.pushf9C rfl rfl (funext fun _ => rfl)
  | .popf9D => .oneByte 0x9D Ref.popf9D rfl rfl (funext fun _ => rfl)
  | .sahf9E => .oneByte 0x9E Ref.sahf9E rfl rfl (funext fun _ => rfl)
  | .lahf9F => .oneByte 0x9F Ref.lahf9F rfl rfl (funext fun _ => rfl)
  | .movA0 => .oneByte 0xA0 Ref.movA0 rfl rfl (funext fun _ => rfl)
  | .movA1 => .oneByte 0xA1 Ref.movA1 rfl rfl (funext fun _ => rfl)
  | .movA2 => .oneByte 0xA2 Ref.movA2 rfl rfl (funext fun _ => rfl)
  | .movA3 => .oneByte 0xA3 Ref.movA3 rfl rfl (funext fun _ => rfl)
  | .movsA4 => .oneByte 0xA4 Ref.movsA4 rfl rfl (funext fun _ => rfl)
  | .movsA5 => .oneByte 0xA5 Ref.movsA5 rfl rfl (funext fun _ => rfl)
  | .cmpsA6 => .oneByte 0xA6 Ref.cmpsA6 rfl rfl (funext fun _ => rfl)
  | .cmpsA7 => .oneByte 0xA7 Ref.cmpsA7 rfl rfl (funext fun _ => rfl)
  | .testA8 => .oneByte 0xA8 Ref.testA8 rfl rfl (funext fun _ => rfl)
  | .testA9 => .oneByte 0xA9 Ref.testA9 rfl rfl (funext fun _ => rfl)
  | .stosAA => .oneByte 0xAA Ref.stosAA rfl rfl (funext fun _ => rfl)
  | .stosAB => .oneByte 0xAB Ref.stosAB rfl rfl (funext fun _ => rfl)
  | .lodsAC => .oneByte 0xAC Ref.lodsAC rfl rfl (funext fun _ => rfl)
  | .lodsAD => .oneByte 0xAD Ref.lodsAD rfl rfl (funext fun _ => rfl)
  | .scasAE => .oneByte 0xAE Ref.scasAE rfl rfl (funext fun _ => rfl)
  | .scasAF => .oneByte 0xAF Ref.scasAF rfl rfl (funext fun _ => rfl)
  | .movB0 => .oneByteReg 0xB0 Ref.movB0 rfl rfl (funext fun _ => rfl)
  | .movB8 => .oneByteReg 0xB8 Ref.movB8 rfl rfl (funext fun _ => rfl)
  | .dispatchC0 => .oneByteDispatch 0xC0 Ref.dispatchC0 rfl (funext fun _ => rfl)
  | .rolC0_0 => .oneByteMember 0xC0 Ref.dispatchC0 0 Ref.rolC0_0 rfl rfl rfl (funext fun _ => rfl)
  | .rorC0_1 => .oneByteMember 0xC0 Ref.dispatchC0 1 Ref.rorC0_1 rfl rfl rfl (funext fun _ => rfl)
  | .rclC0_2 => .oneByteMember 0xC0 Ref.dispatchC0 2 Ref.rclC0_2 rfl rfl rfl (funext fun _ => rfl)
  | .rcrC0_3 => .oneByteMember 0xC0 Ref.dispatchC0 3 Ref.rcrC0_3 rfl rfl rfl (funext fun _ => rfl)
  | .shlC0_4 => .oneByteMember 0xC0 Ref.dispatchC0 4 Ref.shlC0_4 rfl rfl rfl (funext fun _ => rfl)
  | .shrC0_5 => .oneByteMember 0xC0 Ref.dispatchC0 5 Ref.shrC0_5 rfl rfl rfl (funext fun _ => rfl)
  | .sarC0_7 => .oneByteMember 0xC0 Ref.dispatchC0 7 Ref.sarC0_7 rfl rfl rfl (funext fun _ => rfl)
  | .dispatchC1 => .oneByteDispatch 0xC1 Ref.dispatchC1 rfl (funext fun _ => rfl)
  | .rolC1_0 => .oneByteMember 0xC1 Ref.dispatchC1 0 Ref.rolC1_0 rfl rfl rfl (funext fun _ => rfl)
  | .rorC1_1 => .oneByteMember 0xC1 Ref.dispatchC1 1 Ref.rorC1_1 rfl rfl rfl (funext fun _ => rfl)
  | .rclC1_2 => .oneByteMember 0xC1 Ref.dispatchC1 2 Ref.rclC1_2 rfl rfl rfl (funext fun _ => rfl)
  | .rcrC1_3 => .oneByteMember 0xC1 Ref.dispatchC1 3 Ref.rcrC1_3 rfl rfl rfl (funext fun _ => rfl)
  | .shlC1_4 => .oneByteMember 0xC1 Ref.dispatchC1 4 Ref.shlC1_4 rfl rfl rfl (funext fun _ => rfl)
  | .shrC1_5 => .oneByteMember 0xC1 Ref.dispatchC1 5 Ref.shrC1_5 rfl rfl rfl (funext fun _ => rfl)
  | .sarC1_7 => .oneByteMember 0xC1 Ref.dispatchC1 7 Ref.sarC1_7 rfl rfl rfl (funext fun _ => rfl)
  | .retC2 => .oneByte 0xC2 Ref.retC2 rfl rfl (funext fun _ => rfl)
  | .retC3 => .oneByte 0xC3 Ref.retC3 rfl rfl (funext fun _ => rfl)
  | .lesC4 => .oneByte 0xC4 Ref.lesC4 rfl rfl (funext fun _ => rfl)
  | .ldsC5 => .oneByte 0xC5 Ref.ldsC5 rfl rfl (funext fun _ => rfl)
  | .dispatchC6 => .oneByteDispatch 0xC6 Ref.dispatchC6 rfl (funext fun _ => rfl)
  | .movC6_0 => .oneByteMember 0xC6 Ref.dispatchC6 0 Ref.movC6_0 rfl rfl rfl (funext fun _ => rfl)
  | .dispatchC7 => .oneByteDispatch 0xC7 Ref.dispatchC7 rfl (funext fun _ => rfl)
  | .movC7_0 => .oneByteMember 0xC7 Ref.dispatchC7 0 Ref.movC7_0 rfl rfl rfl (funext fun _ => rfl)
  | .leaveC9 => .oneByte 0xC9 Ref.leaveC9 rfl rfl (funext fun _ => rfl)
  | .retfCA => .oneByte 0xCA Ref.retfCA rfl rfl (funext fun _ => rfl)
  | .retfCB => .oneByte 0xCB Ref.retfCB rfl rfl (funext fun _ => rfl)
  | .int3CC => .oneByte 0xCC Ref.int3CC rfl rfl (funext fun _ => rfl)
  | .intCD => .oneByte 0xCD Ref.intCD rfl rfl (funext fun _ => rfl)
  | .intoCE => .oneByte 0xCE Ref.intoCE rfl rfl (funext fun _ => rfl)
  | .iretCF => .oneByte 0xCF Ref.iretCF rfl rfl (funext fun _ => rfl)
  | .dispatchD0 => .oneByteDispatch 0xD0 Ref.dispatchD0 rfl (funext fun _ => rfl)
  | .rolD0_0 => .oneByteMember 0xD0 Ref.dispatchD0 0 Ref.rolD0_0 rfl rfl rfl (funext fun _ => rfl)
  | .rorD0_1 => .oneByteMember 0xD0 Ref.dispatchD0 1 Ref.rorD0_1 rfl rfl rfl (funext fun _ => rfl)
  | .rclD0_2 => .oneByteMember 0xD0 Ref.dispatchD0 2 Ref.rclD0_2 rfl rfl rfl (funext fun _ => rfl)
  | .rcrD0_3 => .oneByteMember 0xD0 Ref.dispatchD0 3 Ref.rcrD0_3 rfl rfl rfl (funext fun _ => rfl)
  | .shlD0_4 => .oneByteMember 0xD0 Ref.dispatchD0 4 Ref.shlD0_4 rfl rfl rfl (funext fun _ => rfl)
  | .shrD0_5 => .oneByteMember 0xD0 Ref.dispatchD0 5 Ref.shrD0_5 rfl rfl rfl (funext fun _ => rfl)
  | .sarD0_7 => .oneByteMember 0xD0 Ref.dispatchD0 7 Ref.sarD0_7 rfl rfl rfl (funext fun _ => rfl)
  | .dispatchD1 => .oneByteDispatch 0xD1 Ref.dispatchD1 rfl (funext fun _ => rfl)
  | .rolD1_0 => .oneByteMember 0xD1 Ref.dispatchD1 0 Ref.rolD1_0 rfl rfl rfl (funext fun _ => rfl)
  | .rorD1_1 => .oneByteMember 0xD1 Ref.dispatchD1 1 Ref.rorD1_1 rfl rfl rfl (funext fun _ => rfl)
  | .rclD1_2 => .oneByteMember 0xD1 Ref.dispatchD1 2 Ref.rclD1_2 rfl rfl rfl (funext fun _ => rfl)
  | .rcrD1_3 => .oneByteMember 0xD1 Ref.dispatchD1 3 Ref.rcrD1_3 rfl rfl rfl (funext fun _ => rfl)
  | .shlD1_4 => .oneByteMember 0xD1 Ref.dispatchD1 4 Ref.shlD1_4 rfl rfl rfl (funext fun _ => rfl)
  | .shrD1_5 => .oneByteMember 0xD1 Ref.dispatchD1 5 Ref.shrD1_5 rfl rfl rfl (funext fun _ => rfl)
  | .sarD1_7 => .oneByteMember 0xD1 Ref.dispatchD1 7 Ref.sarD1_7 rfl rfl rfl (funext fun _ => rfl)
  | .dispatchD2 => .oneByteDispatch 0xD2 Ref.dispatchD2 rfl (funext fun _ => rfl)
  | .rolD2_0 => .oneByteMember 0xD2 Ref.dispatchD2 0 Ref.rolD2_0 rfl rfl rfl (funext fun _ => rfl)
  | .rorD2_1 => .oneByteMember 0xD2 Ref.dispatchD2 1 Ref.rorD2_1 rfl rfl rfl (funext fun _ => rfl)
  | .rclD2_2 => .oneByteMember 0xD2 Ref.dispatchD2 2 Ref.rclD2_2 rfl rfl rfl (funext fun _ => rfl)
  | .rcrD2_3 => .oneByteMember 0xD2 Ref.dispatchD2 3 Ref.rcrD2_3 rfl rfl rfl (funext fun _ => rfl)
  | .shlD2_4 => .oneByteMember 0xD2 Ref.dispatchD2 4 Ref.shlD2_4 rfl rfl rfl (funext fun _ => rfl)
  | .shrD2_5 => .oneByteMember 0xD2 Ref.dispatchD2 5 Ref.shrD2_5 rfl rfl rfl (funext fun _ => rfl)
  | .sarD2_7 => .oneByteMember 0xD2 Ref.dispatchD2 7 Ref.sarD2_7 rfl rfl rfl (funext fun _ => rfl)
  | .dispatchD3 => .oneByteDispatch 0xD3 Ref.dispatchD3 rfl (funext fun _ => rfl)
  | .rolD3_0 => .oneByteMember 0xD3 Ref.dispatchD3 0 Ref.rolD3_0 rfl rfl rfl (funext fun _ => rfl)
  | .rorD3_1 => .oneByteMember 0xD3 Ref.dispatchD3 1 Ref.rorD3_1 rfl rfl rfl (funext fun _ => rfl)
  | .rclD3_2 => .oneByteMember 0xD3 Ref.dispatchD3 2 Ref.rclD3_2 rfl rfl rfl (funext fun _ => rfl)
  | .rcrD3_3 => .oneByteMember 0xD3 Ref.dispatchD3 3 Ref.rcrD3_3 rfl rfl rfl (funext fun _ => rfl)
  | .shlD3_4 => .oneByteMember 0xD3 Ref.dispatchD3 4 Ref.shlD3_4 rfl rfl rfl (funext fun _ => rfl)
  | .shrD3_5 => .oneByteMember 0xD3 Ref.dispatchD3 5 Ref.shrD3_5 rfl rfl rfl (funext fun _ => rfl)
  | .sarD3_7 => .oneByteMember 0xD3 Ref.dispatchD3 7 Ref.sarD3_7 rfl rfl rfl (funext fun _ => rfl)
  | .aamD4 => .oneByte 0xD4 Ref.aamD4 rfl rfl (funext fun _ => rfl)
  | .aadD5 => .oneByte 0xD5 Ref.aadD5 rfl rfl (funext fun _ => rfl)
  | .xlatD7 => .oneByte 0xD7 Ref.xlatD7 rfl rfl (funext fun _ => rfl)
  | .loopneE0 => .oneByte 0xE0 Ref.loopneE0 rfl rfl (funext fun _ => rfl)
  | .loopeE1 => .oneByte 0xE1 Ref.loopeE1 rfl rfl (funext fun _ => rfl)
  | .loopE2 => .oneByte 0xE2 Ref.loopE2 rfl rfl (funext fun _ => rfl)
  | .jecxzE3 => .oneByte 0xE3 Ref.jecxzE3 rfl rfl (funext fun _ => rfl)
  | .inE4 => .oneByte 0xE4 Ref.inE4 rfl rfl (funext fun _ => rfl)
  | .inE5 => .oneByte 0xE5 Ref.inE5 rfl rfl (funext fun _ => rfl)
  | .outE6 => .oneByte 0xE6 Ref.outE6 rfl rfl (funext fun _ => rfl)
  | .outE7 => .oneByte 0xE7 Ref.outE7 rfl rfl (funext fun _ => rfl)
  | .callE8 => .oneByte 0xE8 Ref.callE8 rfl rfl (funext fun _ => rfl)
  | .jmpE9 => .oneByte 0xE9 Ref.jmpE9 rfl rfl (funext fun _ => rfl)
  | .jmpEB => .oneByte 0xEB Ref.jmpEB rfl rfl (funext fun _ => rfl)
  | .inEC => .oneByte 0xEC Ref.inEC rfl rfl (funext fun _ => rfl)
  | .inED => .oneByte 0xED Ref.inED rfl rfl (funext fun _ => rfl)
  | .outEE => .oneByte 0xEE Ref.outEE rfl rfl (funext fun _ => rfl)
  | .outEF => .oneByte 0xEF Ref.outEF rfl rfl (funext fun _ => rfl)
  | .hltF4 => .oneByte 0xF4 Ref.hltF4 rfl rfl (funext fun _ => rfl)
  | .cmcF5 => .oneByte 0xF5 Ref.cmcF5 rfl rfl (funext fun _ => rfl)
  | .dispatchF6 => .oneByteDispatch 0xF6 Ref.dispatchF6 rfl (funext fun _ => rfl)
  | .testF6_0 => .oneByteMember 0xF6 Ref.dispatchF6 0 Ref.testF6_0 rfl rfl rfl (funext fun _ => rfl)
  | .notF6_2 => .oneByteMember 0xF6 Ref.dispatchF6 2 Ref.notF6_2 rfl rfl rfl (funext fun _ => rfl)
  | .negF6_3 => .oneByteMember 0xF6 Ref.dispatchF6 3 Ref.negF6_3 rfl rfl rfl (funext fun _ => rfl)
  | .mulF6_4 => .oneByteMember 0xF6 Ref.dispatchF6 4 Ref.mulF6_4 rfl rfl rfl (funext fun _ => rfl)
  | .imulF6_5 => .oneByteMember 0xF6 Ref.dispatchF6 5 Ref.imulF6_5 rfl rfl rfl (funext fun _ => rfl)
  | .divF6_6 => .oneByteMember 0xF6 Ref.dispatchF6 6 Ref.divF6_6 rfl rfl rfl (funext fun _ => rfl)
  | .idivF6_7 => .oneByteMember 0xF6 Ref.dispatchF6 7 Ref.idivF6_7 rfl rfl rfl (funext fun _ => rfl)
  | .dispatchF7 => .oneByteDispatch 0xF7 Ref.dispatchF7 rfl (funext fun _ => rfl)
  | .testF7_0 => .oneByteMember 0xF7 Ref.dispatchF7 0 Ref.testF7_0 rfl rfl rfl (funext fun _ => rfl)
  | .notF7_2 => .oneByteMember 0xF7 Ref.dispatchF7 2 Ref.notF7_2 rfl rfl rfl (funext fun _ => rfl)
  | .negF7_3 => .oneByteMember 0xF7 Ref.dispatchF7 3 Ref.negF7_3 rfl rfl rfl (funext fun _ => rfl)
  | .mulF7_4 => .oneByteMember 0xF7 Ref.dispatchF7 4 Ref.mulF7_4 rfl rfl rfl (funext fun _ => rfl)
  | .imulF7_5 => .oneByteMember 0xF7 Ref.dispatchF7 5 Ref.imulF7_5 rfl rfl rfl (funext fun _ => rfl)
  | .divF7_6 => .oneByteMember 0xF7 Ref.dispatchF7 6 Ref.divF7_6 rfl rfl rfl (funext fun _ => rfl)
  | .idivF7_7 => .oneByteMember 0xF7 Ref.dispatchF7 7 Ref.idivF7_7 rfl rfl rfl (funext fun _ => rfl)
  | .clcF8 => .oneByte 0xF8 Ref.clcF8 rfl rfl (funext fun _ => rfl)
  | .stcF9 => .oneByte 0xF9 Ref.stcF9 rfl rfl (funext fun _ => rfl)
  | .cliFA => .oneByte 0xFA Ref.cliFA rfl rfl (funext fun _ => rfl)
  | .stiFB => .oneByte 0xFB Ref.stiFB rfl rfl (funext fun _ => rfl)
  | .cldFC => .oneByte 0xFC Ref.cldFC rfl rfl (funext fun _ => rfl)
  | .stdFD => .oneByte 0xFD Ref.stdFD rfl rfl (funext fun _ => rfl)
  | .dispatchFE => .oneByteDispatch 0xFE Ref.dispatchFE rfl (funext fun _ => rfl)
  | .incFE_0 => .oneByteMember 0xFE Ref.dispatchFE 0 Ref.incFE_0 rfl rfl rfl (funext fun _ => rfl)
  | .decFE_1 => .oneByteMember 0xFE Ref.dispatchFE 1 Ref.decFE_1 rfl rfl rfl (funext fun _ => rfl)
  | .dispatchFF => .oneByteDispatch 0xFF Ref.dispatchFF rfl (funext fun _ => rfl)
  | .incFF_0 => .oneByteMember 0xFF Ref.dispatchFF 0 Ref.incFF_0 rfl rfl rfl (funext fun _ => rfl)
  | .decFF_1 => .oneByteMember 0xFF Ref.dispatchFF 1 Ref.decFF_1 rfl rfl rfl (funext fun _ => rfl)
  | .callFF_2 => .oneByteMember 0xFF Ref.dispatchFF 2 Ref.callFF_2 rfl rfl rfl (funext fun _ => rfl)
  | .callfFF_3 => .oneByteMember 0xFF Ref.dispatchFF 3 Ref.callfFF_3 rfl rfl rfl (funext fun _ => rfl)
  | .jmpFF_4 => .oneByteMember 0xFF Ref.dispatchFF 4 Ref.jmpFF_4 rfl rfl rfl (funext fun _ => rfl)
  | .jmpfFF_5 => .oneByteMember 0xFF Ref.dispatchFF 5 Ref.jmpfFF_5 rfl rfl rfl (funext fun _ => rfl)
  | .pushFF_6 => .oneByteMember 0xFF Ref.dispatchFF 6 Ref.pushFF_6 rfl rfl rfl (funext fun _ => rfl)
  | .dispatch0F00 => .twoByteDispatch 0x00 Ref.dispatch0F00 rfl (funext fun _ => rfl)
  | .sldt0F00_0 => .twoByteMember 0x00 Ref.dispatch0F00 0 Ref.sldt0F00_0 rfl rfl rfl (funext fun _ => rfl)
  | .str0F00_1 => .twoByteMember 0x00 Ref.dispatch0F00 1 Ref.str0F00_1 rfl rfl rfl (funext fun _ => rfl)
  | .lldt0F00_2 => .twoByteMember 0x00 Ref.dispatch0F00 2 Ref.lldt0F00_2 rfl rfl rfl (funext fun _ => rfl)
  | .ltr0F00_3 => .twoByteMember 0x00 Ref.dispatch0F00 3 Ref.ltr0F00_3 rfl rfl rfl (funext fun _ => rfl)
  | .verr0F00_4 => .twoByteMember 0x00 Ref.dispatch0F00 4 Ref.verr0F00_4 rfl rfl rfl (funext fun _ => rfl)
  | .verw0F00_5 => .twoByteMember 0x00 Ref.dispatch0F00 5 Ref.verw0F00_5 rfl rfl rfl (funext fun _ => rfl)
  | .dispatch0F01 => .twoByteDispatch 0x01 Ref.dispatch0F01 rfl (funext fun _ => rfl)
  | .sgdt0F01_0 => .twoByteMember 0x01 Ref.dispatch0F01 0 Ref.sgdt0F01_0 rfl rfl rfl (funext fun _ => rfl)
  | .sidt0F01_1 => .twoByteMember 0x01 Ref.dispatch0F01 1 Ref.sidt0F01_1 rfl rfl rfl (funext fun _ => rfl)
  | .lgdt0F01_2 => .twoByteMember 0x01 Ref.dispatch0F01 2 Ref.lgdt0F01_2 rfl rfl rfl (funext fun _ => rfl)
  | .lidt0F01_3 => .twoByteMember 0x01 Ref.dispatch0F01 3 Ref.lidt0F01_3 rfl rfl rfl (funext fun _ => rfl)
  | .smsw0F01_4 => .twoByteMember 0x01 Ref.dispatch0F01 4 Ref.smsw0F01_4 rfl rfl rfl (funext fun _ => rfl)
  | .lmsw0F01_6 => .twoByteMember 0x01 Ref.dispatch0F01 6 Ref.lmsw0F01_6 rfl rfl rfl (funext fun _ => rfl)
  | .invlpg0F01_7 => .twoByteMember 0x01 Ref.dispatch0F01 7 Ref.invlpg0F01_7 rfl rfl rfl (funext fun _ => rfl)
  | .lar0F02 => .twoByte 0x02 Ref.lar0F02 rfl rfl (funext fun _ => rfl)
  | .lsl0F03 => .twoByte 0x03 Ref.lsl0F03 rfl rfl (funext fun _ => rfl)
  | .clts0F06 => .twoByte 0x06 Ref.clts0F06 rfl rfl (funext fun _ => rfl)
  | .invd0F08 => .twoByte 0x08 Ref.invd0F08 rfl rfl (funext fun _ => rfl)
  | .wbinvd0F09 => .twoByte 0x09 Ref.wbinvd0F09 rfl rfl (funext fun _ => rfl)
  | .ud20F0B => .twoByte 0x0B Ref.ud20F0B rfl rfl (funext fun _ => rfl)
  | .nop0F1F => .twoByte 0x1F Ref.nop0F1F rfl rfl (funext fun _ => rfl)
  | .movCr0F20 => .twoByte 0x20 Ref.movCr0F20 rfl rfl (funext fun _ => rfl)
  | .movDr0F21 => .twoByte 0x21 Ref.movDr0F21 rfl rfl (funext fun _ => rfl)
  | .movCr0F22 => .twoByte 0x22 Ref.movCr0F22 rfl rfl (funext fun _ => rfl)
  | .movDr0F23 => .twoByte 0x23 Ref.movDr0F23 rfl rfl (funext fun _ => rfl)
  | .wrmsr0F30 => .twoByte 0x30 Ref.wrmsr0F30 rfl rfl (funext fun _ => rfl)
  | .rdtsc0F31 => .twoByte 0x31 Ref.rdtsc0F31 rfl rfl (funext fun _ => rfl)
  | .rdmsr0F32 => .twoByte 0x32 Ref.rdmsr0F32 rfl rfl (funext fun _ => rfl)
  | .rdpmc0F33 => .twoByte 0x33 Ref.rdpmc0F33 rfl rfl (funext fun _ => rfl)
  | .sysenter0F34 => .twoByte 0x34 Ref.sysenter0F34 rfl rfl (funext fun _ => rfl)
  | .sysexit0F35 => .twoByte 0x35 Ref.sysexit0F35 rfl rfl (funext fun _ => rfl)
  | .cmovo0F40 => .twoByte 0x40 Ref.cmovo0F40 rfl rfl (funext fun _ => rfl)
  | .cmovno0F41 => .twoByte 0x41 Ref.cmovno0F41 rfl rfl (funext fun _ => rfl)
  | .cmovb0F42 => .twoByte 0x42 Ref.cmovb0F42 rfl rfl (funext fun _ => rfl)
  | .cmovae0F43 => .twoByte 0x43 Ref.cmovae0F43 rfl rfl (funext fun _ => rfl)
  | .cmove0F44 => .twoByte 0x44 Ref.cmove0F44 rfl rfl (funext fun _ => rfl)
  | .cmovne0F45 => .twoByte 0x45 Ref.cmovne0F45 rfl rfl (funext fun _ => rfl)
  | .cmovbe0F46 => .twoByte 0x46 Ref.cmovbe0F46 rfl rfl (funext fun _ => rfl)
  | .cmova0F47 => .twoByte 0x47 Ref.cmova0F47 rfl rfl (funext fun _ => rfl)
  | .cmovs0F48 => .twoByte 0x48 Ref.cmovs0F48 rfl rfl (funext fun _ => rfl)
  | .cmovns0F49 => .twoByte 0x49 Ref.cmovns0F49 rfl rfl (funext fun _ => rfl)
  | .cmovp0F4A => .twoByte 0x4A Ref.cmovp0F4A rfl rfl (funext fun _ => rfl)
  | .cmovnp0F4B => .twoByte 0x4B Ref.cmovnp0F4B rfl rfl (funext fun _ => rfl)
  | .cmovl0F4C => .twoByte 0x4C Ref.cmovl0F4C rfl rfl (funext fun _ => rfl)
  | .cmovge0F4D => .twoByte 0x4D Ref.cmovge0F4D rfl rfl (funext fun _ => rfl)
  | .cmovle0F4E => .twoByte 0x4E Ref.cmovle0F4E rfl rfl (funext fun _ => rfl)
  | .cmovg0F4F => .twoByte 0x4F Ref.cmovg0F4F rfl rfl (funext fun _ => rfl)
  | .jo0F80 => .twoByte 0x80 Ref.jo0F80 rfl rfl (funext fun _ => rfl)
  | .jno0F81 => .twoByte 0x81 Ref.jno0F81 rfl rfl (funext fun _ => rfl)
  | .jb0F82 => .twoByte 0x82 Ref.jb0F82 rfl rfl (funext fun _ => rfl)
  | .jae0F83 => .twoByte 0x83 Ref.jae0F83 rfl rfl (funext fun _ => rfl)
  | .je0F84 => .twoByte 0x84 Ref.je0F84 rfl rfl (funext fun _ => rfl)
  | .jne0F85 => .twoByte 0x85 Ref.jne0F85 rfl rfl (funext fun _ => rfl)
  | .jbe0F86 => .twoByte 0x86 Ref.jbe0F86 rfl rfl (funext fun _ => rfl)
  | .ja0F87 => .twoByte 0x87 Ref.ja0F87 rfl rfl (funext fun _ => rfl)
  | .js0F88 => .twoByte 0x88 Ref.js0F88 rfl rfl (funext fun _ => rfl)
  | .jns0F89 => .twoByte 0x89 Ref.jns0F89 rfl rfl (funext fun _ => rfl)
  | .jp0F8A => .twoByte 0x8A Ref.jp0F8A rfl rfl (funext fun _ => rfl)
  | .jnp0F8B => .twoByte 0x8B Ref.jnp0F8B rfl rfl (funext fun _ => rfl)
  | .jl0F8C => .twoByte 0x8C Ref.jl0F8C rfl rfl (funext fun _ => rfl)
  | .jge0F8D => .twoByte 0x8D Ref.jge0F8D rfl rfl (funext fun _ => rfl)
  | .jle0F8E => .twoByte 0x8E Ref.jle0F8E rfl rfl (funext fun _ => rfl)
  | .jg0F8F => .twoByte 0x8F Ref.jg0F8F rfl rfl (funext fun _ => rfl)
  | .seto0F90 => .twoByte 0x90 Ref.seto0F90 rfl rfl (funext fun _ => rfl)
  | .setno0F91 => .twoByte 0x91 Ref.setno0F91 rfl rfl (funext fun _ => rfl)
  | .setb0F92 => .twoByte 0x92 Ref.setb0F92 rfl rfl (funext fun _ => rfl)
  | .setae0F93 => .twoByte 0x93 Ref.setae0F93 rfl rfl (funext fun _ => rfl)
  | .sete0F94 => .twoByte 0x94 Ref.sete0F94 rfl rfl (funext fun _ => rfl)
  | .setne0F95 => .twoByte 0x95 Ref.setne0F95 rfl rfl (funext fun _ => rfl)
  | .setbe0F96 => .twoByte 0x96 Ref.setbe0F96 rfl rfl (funext fun _ => rfl)
  | .seta0F97 => .twoByte 0x97 Ref.seta0F97 rfl rfl (funext fun _ => rfl)
  | .sets0F98 => .twoByte 0x98 Ref.sets0F98 rfl rfl (funext fun _ => rfl)
  | .setns0F99 => .twoByte 0x99 Ref.setns0F99 rfl rfl (funext fun _ => rfl)
  | .setp0F9A => .twoByte 0x9A Ref.setp0F9A rfl rfl (funext fun _ => rfl)
  | .setnp0F9B => .twoByte 0x9B Ref.setnp0F9B rfl rfl (funext fun _ => rfl)
  | .setl0F9C => .twoByte 0x9C Ref.setl0F9C rfl rfl (funext fun _ => rfl)
  | .setge0F9D => .twoByte 0x9D Ref.setge0F9D rfl rfl (funext fun _ => rfl)
  | .setle0F9E => .twoByte 0x9E Ref.setle0F9E rfl rfl (funext fun _ => rfl)
  | .setg0F9F => .twoByte 0x9F Ref.setg0F9F rfl rfl (funext fun _ => rfl)
  | .push0FA0 => .twoByte 0xA0 Ref.push0FA0 rfl rfl (funext fun _ => rfl)
  | .pop0FA1 => .twoByte 0xA1 Ref.pop0FA1 rfl rfl (funext fun _ => rfl)
  | .cpuid0FA2 => .twoByte 0xA2 Ref.cpuid0FA2 rfl rfl (funext fun _ => rfl)
  | .bt0FA3 => .twoByte 0xA3 Ref.bt0FA3 rfl rfl (funext fun _ => rfl)
  | .shld0FA4 => .twoByte 0xA4 Ref.shld0FA4 rfl rfl (funext fun _ => rfl)
  | .push0FA8 => .twoByte 0xA8 Ref.push0FA8 rfl rfl (funext fun _ => rfl)
  | .pop0FA9 => .twoByte 0xA9 Ref.pop0FA9 rfl rfl (funext fun _ => rfl)
  | .rsm0FAA => .twoByte 0xAA Ref.rsm0FAA rfl rfl (funext fun _ => rfl)
  | .bts0FAB => .twoByte 0xAB Ref.bts0FAB rfl rfl (funext fun _ => rfl)
  | .shrd0FAC => .twoByte 0xAC Ref.shrd0FAC rfl rfl (funext fun _ => rfl)
  | .imul0FAF => .twoByte 0xAF Ref.imul0FAF rfl rfl (funext fun _ => rfl)
  | .cmpxchg0FB0 => .twoByte 0xB0 Ref.cmpxchg0FB0 rfl rfl (funext fun _ => rfl)
  | .cmpxchg0FB1 => .twoByte 0xB1 Ref.cmpxchg0FB1 rfl rfl (funext fun _ => rfl)
  | .lss0FB2 => .twoByte 0xB2 Ref.lss0FB2 rfl rfl (funext fun _ => rfl)
  | .btr0FB3 => .twoByte 0xB3 Ref.btr0FB3 rfl rfl (funext fun _ => rfl)
  | .lfs0FB4 => .twoByte 0xB4 Ref.lfs0FB4 rfl rfl (funext fun _ => rfl)
  | .lgs0FB5 => .twoByte 0xB5 Ref.lgs0FB5 rfl rfl (funext fun _ => rfl)
  | .movzx0FB6 => .twoByte 0xB6 Ref.movzx0FB6 rfl rfl (funext fun _ => rfl)
  | .movzx0FB7 => .twoByte 0xB7 Ref.movzx0FB7 rfl rfl (funext fun _ => rfl)
  | .dispatch0FBA => .twoByteDispatch 0xBA Ref.dispatch0FBA rfl (funext fun _ => rfl)
  | .bt0FBA_4 => .twoByteMember 0xBA Ref.dispatch0FBA 4 Ref.bt0FBA_4 rfl rfl rfl (funext fun _ => rfl)
  | .bts0FBA_5 => .twoByteMember 0xBA Ref.dispatch0FBA 5 Ref.bts0FBA_5 rfl rfl rfl (funext fun _ => rfl)
  | .btr0FBA_6 => .twoByteMember 0xBA Ref.dispatch0FBA 6 Ref.btr0FBA_6 rfl rfl rfl (funext fun _ => rfl)
  | .btc0FBA_7 => .twoByteMember 0xBA Ref.dispatch0FBA 7 Ref.btc0FBA_7 rfl rfl rfl (funext fun _ => rfl)
  | .btc0FBB => .twoByte 0xBB Ref.btc0FBB rfl rfl (funext fun _ => rfl)
  | .bsf0FBC => .twoByte 0xBC Ref.bsf0FBC rfl rfl (funext fun _ => rfl)
  | .bsr0FBD => .twoByte 0xBD Ref.bsr0FBD rfl rfl (funext fun _ => rfl)
  | .movsx0FBE => .twoByte 0xBE Ref.movsx0FBE rfl rfl (funext fun _ => rfl)
  | .movsx0FBF => .twoByte 0xBF Ref.movsx0FBF rfl rfl (funext fun _ => rfl)
  | .xadd0FC0 => .twoByte 0xC0 Ref.xadd0FC0 rfl rfl (funext fun _ => rfl)
  | .xadd0FC1 => .twoByte 0xC1 Ref.xadd0FC1 rfl rfl (funext fun _ => rfl)
  | .dispatch0FC7 => .twoByteDispatch 0xC7 Ref.dispatch0FC7 rfl (funext fun _ => rfl)
  | .cmpxchg8b0FC7_1 => .twoByteMember 0xC7 Ref.dispatch0FC7 1 Ref.cmpxchg8b0FC7_1 rfl rfl rfl (funext fun _ => rfl)
  | .bswap0FC8 => .twoByteReg 0xC8 Ref.bswap0FC8 rfl rfl (funext fun _ => rfl)
  | .xchg66_90 => .hardCoded 0x90 Ref.xchg66_90 rfl rfl (funext fun _ => rfl)

end Sys2Proof.Machine
end

