-- ==== Sys2Proof/Tests/Slice0.lean ====
section
/-! SUPPORT. The model's own tests. Expected results come from the spec: 95_test_vectors.md, the encodings of the forms tables, and the
rules a theorem's comment names. The last part shows, for each statement with hypotheses, a state that meets them. -/

namespace Sys2Proof.Tests

open Sys2Proof.Machine Sys2Proof.Claims

set_option Elab.async false

/-! Ill-formed terms that WellFormed refuses, one per check, each beside a well-formed neighbour. -/

/-- No prefixes, 32-bit defaults. -/
def sizes : SizeCtx := ⟨.long, .long, false, false⟩

/-- 16-bit defaults. -/
def sizes16 : SizeCtx := ⟨.word, .word, false, false⟩

/-- Under the prefix 66. -/
def sizes66 : SizeCtx := ⟨.long, .long, true, false⟩

theorem test_wf_digit : (⟨.add80_0, 1, ⟨3, 0, ⟨0, 0, 0⟩, 0⟩, 5⟩ : Insn).wf sizes = false
    ∧ (⟨.add80_0, 0, ⟨3, 0, ⟨0, 0, 0⟩, 0⟩, 5⟩ : Insn).wf sizes = true := by decide

theorem test_wf_no_register : (⟨.nop90, 1, Rm.absent, 0⟩ : Insn).wf sizes = false
    ∧ (⟨.nop90, 0, Rm.absent, 0⟩ : Insn).wf sizes = true := by decide

theorem test_wf_no_modrm : (⟨.clcF8, 0, ⟨3, 0, ⟨0, 0, 0⟩, 0⟩, 0⟩ : Insn).wf sizes = false := by decide

theorem test_wf_sib_absent : (⟨.add00, 0, ⟨0, 0, ⟨1, 0, 0⟩, 0⟩, 0⟩ : Insn).wf sizes = false
    ∧ (⟨.add00, 0, ⟨0, 4, ⟨1, 0, 0⟩, 0⟩, 0⟩ : Insn).wf sizes = true
    ∧ (⟨.add00, 0, ⟨0, 4, ⟨1, 0, 0⟩, 0⟩, 0⟩ : Insn).wf sizes16 = false := by decide

theorem test_wf_displacement_fits : (⟨.add00, 0, ⟨1, 0, ⟨0, 0, 0⟩, 0x100⟩, 0⟩ : Insn).wf sizes = false
    ∧ (⟨.add00, 0, ⟨1, 0, ⟨0, 0, 0⟩, 0xFF⟩, 0⟩ : Insn).wf sizes = true := by decide

theorem test_wf_no_displacement : (⟨.add00, 0, ⟨3, 0, ⟨0, 0, 0⟩, 1⟩, 0⟩ : Insn).wf sizes = false := by decide

theorem test_wf_immediate_fits : (⟨.add05, 0, Rm.absent, 0x10000⟩ : Insn).wf sizes66 = false
    ∧ (⟨.add05, 0, Rm.absent, 0x10000⟩ : Insn).wf sizes = true := by decide

theorem test_wf_no_immediate : (⟨.retC3, 0, Rm.absent, 1⟩ : Insn).wf sizes = false := by decide

theorem test_wf_nop_xchg66 : (⟨.nop90, 0, Rm.absent, 0⟩ : Insn).wf sizes66 = false
    ∧ (⟨.xchg66_90, 0, Rm.absent, 0⟩ : Insn).wf sizes = false
    ∧ (⟨.xchg66_90, 0, Rm.absent, 0⟩ : Insn).wf sizes66 = true := by decide

theorem test_wf_xchg_register : (⟨.xchg91, 0, Rm.absent, 0⟩ : Insn).wf sizes = false
    ∧ (⟨.xchg91, 7, Rm.absent, 0⟩ : Insn).wf sizes = true := by decide

theorem test_wf_escape : (⟨.escape0F, 0, Rm.absent, 0xA2⟩ : Insn).wf sizes = false
    ∧ (⟨.escape0F, 0, Rm.absent, 0x04⟩ : Insn).wf sizes = true := by decide

theorem test_wf_dispatch : (⟨.dispatchFE, 1, ⟨3, 0, ⟨0, 0, 0⟩, 0⟩, 0⟩ : Insn).wf sizes = false
    ∧ (⟨.dispatchFE, 2, ⟨3, 0, ⟨0, 0, 0⟩, 0⟩, 0⟩ : Insn).wf sizes = true := by decide

/-! Decoding: for each row a word of 95_test_vectors.md section 3 or 4, or of the forms tables. -/

/-- The row a byte string decodes to with all its parts, and that nothing is left over. -/
def decodesTo (p : List Byte × Instr) : Bool :=
  match (decode .long .long p.1).insn with
  | some (x, []) => x.row == p.2
  | _ => false

def arithWords0 : List (List Byte × Instr) := [
  ([0x00, 0x00], .add00),
  ([0x01, 0xD1], .add01),
  ([0x02, 0xD1], .add02),
  ([0x03, 0x05, 0x01, 0x00, 0x00, 0x00], .add03),
  ([0x04, 0x12], .add04),
  ([0x05, 0x78, 0x56, 0x34, 0x12], .add05),
  ([0x08, 0xD1], .or08),
  ([0x09, 0xD1], .or09),
  ([0x0A, 0xD1], .or0A),
  ([0x0B, 0xD1], .or0B),
  ([0x0C, 0x12], .or0C),
  ([0x0D, 0x78, 0x56, 0x34, 0x12], .or0D),
  ([0x10, 0xD1], .adc10),
  ([0x11, 0xD1], .adc11),
  ([0x12, 0xD1], .adc12),
  ([0x13, 0xD1], .adc13),
  ([0x14, 0x12], .adc14),
  ([0x15, 0x78, 0x56, 0x34, 0x12], .adc15),
  ([0x18, 0xD1], .sbb18),
  ([0x19, 0xD1], .sbb19),
  ([0x1A, 0xD1], .sbb1A),
  ([0x1B, 0xD1], .sbb1B),
  ([0x1C, 0x12], .sbb1C),
  ([0x1D, 0x78, 0x56, 0x34, 0x12], .sbb1D),
  ([0x20, 0xD1], .and20),
  ([0x21, 0xD1], .and21),
  ([0x22, 0xD1], .and22),
  ([0x23, 0xD1], .and23),
  ([0x24, 0x12], .and24),
  ([0x25, 0x78, 0x56, 0x34, 0x12], .and25),
  ([0x28, 0xD1], .sub28),
  ([0x29, 0xD1], .sub29),
  ([0x2A, 0xD1], .sub2A),
  ([0x2B, 0xD1], .sub2B),
  ([0x2C, 0x12], .sub2C),
  ([0x2D, 0x78, 0x56, 0x34, 0x12], .sub2D),
  ([0x30, 0xD1], .xor30),
  ([0x31, 0xD1], .xor31),
  ([0x32, 0xD1], .xor32),
  ([0x33, 0xD1], .xor33)]

theorem test_decode_arith0 : arithWords0.all decodesTo = true := by decide +kernel

def arithWords1 : List (List Byte × Instr) := [
  ([0x34, 0x12], .xor34),
  ([0x35, 0x78, 0x56, 0x34, 0x12], .xor35),
  ([0x38, 0xD1], .cmp38),
  ([0x39, 0xD1], .cmp39),
  ([0x3A, 0xD1], .cmp3A),
  ([0x3B, 0xD1], .cmp3B),
  ([0x3C, 0x12], .cmp3C),
  ([0x3D, 0x78, 0x56, 0x34, 0x12], .cmp3D),
  ([0x27], .daa27),
  ([0x2F], .das2F),
  ([0x37], .aaa37),
  ([0x3F], .aas3F),
  ([0x40], .inc40),
  ([0x48], .dec48),
  ([0x69, 0xC1, 0x10, 0x00, 0x00, 0x00], .imul69),
  ([0x6B, 0xD1, 0xFE], .imul6B),
  ([0x80, 0xC1, 0x12], .add80_0),
  ([0x80, 0xC9, 0x12], .or80_1),
  ([0x80, 0xD1, 0x12], .adc80_2),
  ([0x80, 0xD9, 0x12], .sbb80_3),
  ([0x80, 0xE1, 0x12], .and80_4),
  ([0x80, 0xE9, 0x12], .sub80_5),
  ([0x80, 0xF1, 0x12], .xor80_6),
  ([0x80, 0x38, 0x05], .cmp80_7),
  ([0x81, 0xC1, 0x78, 0x56, 0x34, 0x12], .add81_0),
  ([0x81, 0xC9, 0x78, 0x56, 0x34, 0x12], .or81_1),
  ([0x81, 0xD1, 0x78, 0x56, 0x34, 0x12], .adc81_2),
  ([0x81, 0xD9, 0x78, 0x56, 0x34, 0x12], .sbb81_3),
  ([0x81, 0xE1, 0x78, 0x56, 0x34, 0x12], .and81_4),
  ([0x81, 0xE9, 0x78, 0x56, 0x34, 0x12], .sub81_5),
  ([0x81, 0xF1, 0x78, 0x56, 0x34, 0x12], .xor81_6),
  ([0x81, 0xF9, 0x78, 0x56, 0x34, 0x12], .cmp81_7),
  ([0x82, 0xC1, 0x12], .add82_0),
  ([0x82, 0xC9, 0x12], .or82_1),
  ([0x82, 0xD1, 0x12], .adc82_2),
  ([0x82, 0xD9, 0x12], .sbb82_3),
  ([0x82, 0xE1, 0x12], .and82_4),
  ([0x82, 0xE9, 0x12], .sub82_5),
  ([0x82, 0xF1, 0x12], .xor82_6),
  ([0x82, 0xF9, 0x12], .cmp82_7)]

theorem test_decode_arith1 : arithWords1.all decodesTo = true := by decide +kernel

def arithWords2 : List (List Byte × Instr) := [
  ([0x83, 0xC0, 0xFF], .add83_0),
  ([0x83, 0xC9, 0xFE], .or83_1),
  ([0x83, 0xD1, 0xFE], .adc83_2),
  ([0x83, 0xD9, 0xFE], .sbb83_3),
  ([0x83, 0xE1, 0xFE], .and83_4),
  ([0x83, 0xE9, 0xFE], .sub83_5),
  ([0x83, 0xF1, 0xFE], .xor83_6),
  ([0x83, 0xF9, 0xFE], .cmp83_7),
  ([0x84, 0xD1], .test84),
  ([0x85, 0xD1], .test85),
  ([0xA8, 0x12], .testA8),
  ([0xA9, 0x78, 0x56, 0x34, 0x12], .testA9),
  ([0xD4, 0x12], .aamD4),
  ([0xD5, 0x12], .aadD5),
  ([0xF6, 0xC1, 0x12], .testF6_0),
  ([0xF6, 0xD1], .notF6_2),
  ([0xF6, 0xD9], .negF6_3),
  ([0xF6, 0xE1], .mulF6_4),
  ([0xF6, 0xE9], .imulF6_5),
  ([0xF6, 0xF1], .divF6_6),
  ([0xF6, 0xF9], .idivF6_7),
  ([0xF7, 0xC1, 0x78, 0x56, 0x34, 0x12], .testF7_0),
  ([0xF7, 0xD1], .notF7_2),
  ([0xF7, 0xD9], .negF7_3),
  ([0xF7, 0xE1], .mulF7_4),
  ([0xF7, 0xE9], .imulF7_5),
  ([0xF7, 0xF1], .divF7_6),
  ([0xF7, 0xF9], .idivF7_7),
  ([0xFE, 0xC1], .incFE_0),
  ([0xFE, 0xC9], .decFE_1),
  ([0xFF, 0xC1], .incFF_0),
  ([0xFF, 0xC9], .decFF_1),
  ([0x0F, 0xAF, 0xD1], .imul0FAF),
  ([0x0F, 0xB0, 0xD1], .cmpxchg0FB0),
  ([0x0F, 0xB1, 0xD1], .cmpxchg0FB1),
  ([0x0F, 0xC0, 0xD1], .xadd0FC0),
  ([0x0F, 0xC1, 0xD1], .xadd0FC1),
  ([0x0F, 0xC7, 0x4B, 0x08], .cmpxchg8b0FC7_1)]

theorem test_decode_arith2 : arithWords2.all decodesTo = true := by decide +kernel

def shiftBitWords0 : List (List Byte × Instr) := [
  ([0xC0, 0xC1, 0x12], .rolC0_0),
  ([0xC0, 0xC9, 0x12], .rorC0_1),
  ([0xC0, 0xD1, 0x12], .rclC0_2),
  ([0xC0, 0xD9, 0x12], .rcrC0_3),
  ([0xC0, 0xE1, 0x12], .shlC0_4),
  ([0xC0, 0xE9, 0x12], .shrC0_5),
  ([0xC0, 0xF9, 0x12], .sarC0_7),
  ([0xC1, 0xC1, 0x12], .rolC1_0),
  ([0xC1, 0xC9, 0x12], .rorC1_1),
  ([0xC1, 0xD1, 0x12], .rclC1_2),
  ([0xC1, 0xD9, 0x12], .rcrC1_3),
  ([0xC1, 0xE1, 0x12], .shlC1_4),
  ([0xC1, 0xE9, 0x12], .shrC1_5),
  ([0xC1, 0xF9, 0x12], .sarC1_7),
  ([0xD0, 0xC1], .rolD0_0),
  ([0xD0, 0xC9], .rorD0_1),
  ([0xD0, 0xD1], .rclD0_2),
  ([0xD0, 0xD9], .rcrD0_3),
  ([0xD0, 0xE1], .shlD0_4),
  ([0xD0, 0xE9], .shrD0_5),
  ([0xD0, 0xF9], .sarD0_7),
  ([0xD1, 0xC1], .rolD1_0),
  ([0xD1, 0xC9], .rorD1_1),
  ([0xD1, 0xD1], .rclD1_2),
  ([0xD1, 0xD9], .rcrD1_3),
  ([0xD1, 0xE1], .shlD1_4),
  ([0xD1, 0xE9], .shrD1_5),
  ([0xD1, 0xF9], .sarD1_7),
  ([0xD2, 0xC1], .rolD2_0),
  ([0xD2, 0xC9], .rorD2_1),
  ([0xD2, 0xD1], .rclD2_2),
  ([0xD2, 0xD9], .rcrD2_3),
  ([0xD2, 0xE1], .shlD2_4),
  ([0xD2, 0xE9], .shrD2_5),
  ([0xD2, 0xF9], .sarD2_7),
  ([0xD3, 0xC1], .rolD3_0),
  ([0xD3, 0xC9], .rorD3_1),
  ([0xD3, 0xD1], .rclD3_2),
  ([0xD3, 0xD9], .rcrD3_3),
  ([0xD3, 0xE0], .shlD3_4)]

theorem test_decode_shiftbit0 : shiftBitWords0.all decodesTo = true := by decide +kernel

def shiftBitWords1 : List (List Byte × Instr) := [
  ([0xD3, 0xE9], .shrD3_5),
  ([0xD3, 0xF9], .sarD3_7),
  ([0x0F, 0x90, 0xD1], .seto0F90),
  ([0x0F, 0x91, 0xD1], .setno0F91),
  ([0x0F, 0x92, 0xD1], .setb0F92),
  ([0x0F, 0x93, 0xD1], .setae0F93),
  ([0x0F, 0x94, 0xD1], .sete0F94),
  ([0x0F, 0x95, 0xD1], .setne0F95),
  ([0x0F, 0x96, 0xD1], .setbe0F96),
  ([0x0F, 0x97, 0xD1], .seta0F97),
  ([0x0F, 0x98, 0xD1], .sets0F98),
  ([0x0F, 0x99, 0xD1], .setns0F99),
  ([0x0F, 0x9A, 0xD1], .setp0F9A),
  ([0x0F, 0x9B, 0xD1], .setnp0F9B),
  ([0x0F, 0x9C, 0xD1], .setl0F9C),
  ([0x0F, 0x9D, 0xD1], .setge0F9D),
  ([0x0F, 0x9E, 0xD1], .setle0F9E),
  ([0x0F, 0x9F, 0xD1], .setg0F9F),
  ([0x0F, 0xA3, 0xD1], .bt0FA3),
  ([0x0F, 0xA4, 0xD1, 0x12], .shld0FA4),
  ([0x0F, 0xAB, 0xD1], .bts0FAB),
  ([0x0F, 0xAC, 0xD1, 0x12], .shrd0FAC),
  ([0x0F, 0xB3, 0xD1], .btr0FB3),
  ([0x0F, 0xBA, 0xE1, 0x12], .bt0FBA_4),
  ([0x0F, 0xBA, 0xE9, 0x12], .bts0FBA_5),
  ([0x0F, 0xBA, 0xF1, 0x12], .btr0FBA_6),
  ([0x0F, 0xBA, 0xF9, 0x12], .btc0FBA_7),
  ([0x0F, 0xBB, 0xD1], .btc0FBB),
  ([0x0F, 0xBC, 0xD1], .bsf0FBC),
  ([0x0F, 0xBD, 0xD1], .bsr0FBD),
  ([0x0F, 0xC9], .bswap0FC8)]

theorem test_decode_shiftbit1 : shiftBitWords1.all decodesTo = true := by decide +kernel

def moveStackWords0 : List (List Byte × Instr) := [
  ([0x06], .push06),
  ([0x0E], .push0E),
  ([0x16], .push16),
  ([0x1E], .push1E),
  ([0x07], .pop07),
  ([0x17], .pop17),
  ([0x1F], .pop1F),
  ([0x51], .push50),
  ([0x59], .pop58),
  ([0x60], .pusha60),
  ([0x61], .popa61),
  ([0x68, 0x78, 0x56, 0x34, 0x12], .push68),
  ([0x6A, 0x80], .push6A),
  ([0x86, 0xD1], .xchg86),
  ([0x87, 0xD1], .xchg87),
  ([0x88, 0xD1], .mov88),
  ([0x89, 0xD1], .mov89),
  ([0x8A, 0xD1], .mov8A),
  ([0x8B, 0x1D, 0xA8, 0x6B, 0x25, 0xC0], .mov8B),
  ([0x8C, 0xD1], .mov8C),
  ([0x8D, 0x04, 0x25, 0x78, 0x56, 0x34, 0x12], .lea8D),
  ([0x8E, 0xD1], .mov8E),
  ([0x8F, 0xC1], .pop8F_0),
  ([0x93], .xchg91),
  ([0x98], .cwde98),
  ([0x99], .cdq99),
  ([0xA0, 0x78, 0x56, 0x34, 0x12], .movA0),
  ([0xA1, 0x78, 0x56, 0x34, 0x12], .movA1),
  ([0xA2, 0x78, 0x56, 0x34, 0x12], .movA2),
  ([0xA3, 0x78, 0x56, 0x34, 0x12], .movA3),
  ([0xB0, 0xFF], .movB0),
  ([0xB8, 0x78, 0x56, 0x34, 0x12], .movB8),
  ([0xC4, 0x53, 0x08], .lesC4),
  ([0xC5, 0x53, 0x08], .ldsC5),
  ([0xC6, 0x00, 0x01], .movC6_0),
  ([0xC7, 0x05, 0x10, 0x00, 0x00, 0x00, 0x01, 0x00, 0x00, 0x00], .movC7_0),
  ([0xC9], .leaveC9),
  ([0xD7], .xlatD7),
  ([0xFF, 0xF1], .pushFF_6),
  ([0x0F, 0x40, 0xD1], .cmovo0F40)]

theorem test_decode_movestack0 : moveStackWords0.all decodesTo = true := by decide +kernel

def moveStackWords1 : List (List Byte × Instr) := [
  ([0x0F, 0x41, 0xD1], .cmovno0F41),
  ([0x0F, 0x42, 0xD1], .cmovb0F42),
  ([0x0F, 0x43, 0xD1], .cmovae0F43),
  ([0x0F, 0x44, 0xD1], .cmove0F44),
  ([0x0F, 0x45, 0xD1], .cmovne0F45),
  ([0x0F, 0x46, 0xD1], .cmovbe0F46),
  ([0x0F, 0x47, 0xD1], .cmova0F47),
  ([0x0F, 0x48, 0xD1], .cmovs0F48),
  ([0x0F, 0x49, 0xD1], .cmovns0F49),
  ([0x0F, 0x4A, 0xD1], .cmovp0F4A),
  ([0x0F, 0x4B, 0xD1], .cmovnp0F4B),
  ([0x0F, 0x4C, 0xD1], .cmovl0F4C),
  ([0x0F, 0x4D, 0xD1], .cmovge0F4D),
  ([0x0F, 0x4E, 0xD1], .cmovle0F4E),
  ([0x0F, 0x4F, 0xD1], .cmovg0F4F),
  ([0x0F, 0xA0], .push0FA0),
  ([0x0F, 0xA1], .pop0FA1),
  ([0x0F, 0xA8], .push0FA8),
  ([0x0F, 0xA9], .pop0FA9),
  ([0x0F, 0xB2, 0x53, 0x08], .lss0FB2),
  ([0x0F, 0xB4, 0x53, 0x08], .lfs0FB4),
  ([0x0F, 0xB5, 0x53, 0x08], .lgs0FB5),
  ([0x0F, 0xB6, 0xC1], .movzx0FB6),
  ([0x0F, 0xB7, 0xD1], .movzx0FB7),
  ([0x0F, 0xBE, 0xD1], .movsx0FBE),
  ([0x0F, 0xBF, 0xD1], .movsx0FBF),
  ([0x66, 0x90], .xchg66_90)]

theorem test_decode_movestack1 : moveStackWords1.all decodesTo = true := by decide +kernel

def controlWords0 : List (List Byte × Instr) := [
  ([0x70, 0xFE], .jo70),
  ([0x71, 0xFE], .jno71),
  ([0x72, 0xFE], .jb72),
  ([0x73, 0xFE], .jae73),
  ([0x74, 0x80], .je74),
  ([0x75, 0xFE], .jne75),
  ([0x76, 0xFE], .jbe76),
  ([0x77, 0xFE], .ja77),
  ([0x78, 0xFE], .js78),
  ([0x79, 0xFE], .jns79),
  ([0x7A, 0xFE], .jp7A),
  ([0x7B, 0xFE], .jnp7B),
  ([0x7C, 0xFE], .jl7C),
  ([0x7D, 0xFE], .jge7D),
  ([0x7E, 0xFE], .jle7E),
  ([0x7F, 0xFE], .jg7F),
  ([0xC2, 0x08, 0x00], .retC2),
  ([0xC3], .retC3),
  ([0xCA, 0x34, 0x12], .retfCA),
  ([0xCB], .retfCB),
  ([0xCC], .int3CC),
  ([0xCD, 0x80], .intCD),
  ([0xCE], .intoCE),
  ([0xCF], .iretCF),
  ([0xE0, 0xFE], .loopneE0),
  ([0xE1, 0xFE], .loopeE1),
  ([0xE2, 0xFE], .loopE2),
  ([0xE3, 0xFE], .jecxzE3),
  ([0xE8, 0x00, 0x01, 0x00, 0x00], .callE8),
  ([0xE9, 0x00, 0x01, 0x00, 0x00], .jmpE9),
  ([0xEB, 0xFE], .jmpEB),
  ([0xFF, 0x15, 0x00, 0x10, 0x00, 0x00], .callFF_2),
  ([0xFF, 0x5B, 0x08], .callfFF_3),
  ([0xFF, 0xE0], .jmpFF_4),
  ([0xFF, 0x6B, 0x08], .jmpfFF_5),
  ([0x0F, 0x80, 0x00, 0x01, 0x00, 0x00], .jo0F80),
  ([0x0F, 0x81, 0x00, 0x01, 0x00, 0x00], .jno0F81),
  ([0x0F, 0x82, 0x00, 0x01, 0x00, 0x00], .jb0F82),
  ([0x0F, 0x83, 0x00, 0x01, 0x00, 0x00], .jae0F83),
  ([0x0F, 0x84, 0x00, 0x01, 0x00, 0x00], .je0F84)]

theorem test_decode_control0 : controlWords0.all decodesTo = true := by decide +kernel

def controlWords1 : List (List Byte × Instr) := [
  ([0x0F, 0x85, 0x00, 0x01, 0x00, 0x00], .jne0F85),
  ([0x0F, 0x86, 0x00, 0x01, 0x00, 0x00], .jbe0F86),
  ([0x0F, 0x87, 0x00, 0x01, 0x00, 0x00], .ja0F87),
  ([0x0F, 0x88, 0x00, 0x01, 0x00, 0x00], .js0F88),
  ([0x0F, 0x89, 0x00, 0x01, 0x00, 0x00], .jns0F89),
  ([0x0F, 0x8A, 0x00, 0x01, 0x00, 0x00], .jp0F8A),
  ([0x0F, 0x8B, 0x00, 0x01, 0x00, 0x00], .jnp0F8B),
  ([0x0F, 0x8C, 0x00, 0x01, 0x00, 0x00], .jl0F8C),
  ([0x0F, 0x8D, 0x00, 0x01, 0x00, 0x00], .jge0F8D),
  ([0x0F, 0x8E, 0x00, 0x01, 0x00, 0x00], .jle0F8E),
  ([0x0F, 0x8F, 0x00, 0x01, 0x00, 0x00], .jg0F8F)]

theorem test_decode_control1 : controlWords1.all decodesTo = true := by decide +kernel

def stringIoWords0 : List (List Byte × Instr) := [
  ([0x6C], .ins6C),
  ([0x6D], .ins6D),
  ([0x6E], .outs6E),
  ([0x6F], .outs6F),
  ([0xA4], .movsA4),
  ([0xA5], .movsA5),
  ([0xA6], .cmpsA6),
  ([0xA7], .cmpsA7),
  ([0xAA], .stosAA),
  ([0xAB], .stosAB),
  ([0xAC], .lodsAC),
  ([0xAD], .lodsAD),
  ([0xAE], .scasAE),
  ([0xAF], .scasAF),
  ([0xE4, 0x60], .inE4),
  ([0xE5, 0x12], .inE5),
  ([0xE6, 0x12], .outE6),
  ([0xE7, 0x12], .outE7),
  ([0xEC], .inEC),
  ([0xED], .inED),
  ([0xEE], .outEE),
  ([0xEF], .outEF)]

theorem test_decode_stringio0 : stringIoWords0.all decodesTo = true := by decide +kernel

def systemWords0 : List (List Byte × Instr) := [
  ([0x62, 0x53, 0x08], .bound62),
  ([0x63, 0xD1], .arpl63),
  ([0xF4], .hltF4),
  ([0xFA], .cliFA),
  ([0xFB], .stiFB),
  ([0x0F, 0x00, 0xC1], .sldt0F00_0),
  ([0x0F, 0x00, 0xC9], .str0F00_1),
  ([0x0F, 0x00, 0xD1], .lldt0F00_2),
  ([0x0F, 0x00, 0xD9], .ltr0F00_3),
  ([0x0F, 0x00, 0xE1], .verr0F00_4),
  ([0x0F, 0x00, 0xE9], .verw0F00_5),
  ([0x0F, 0x01, 0x43, 0x08], .sgdt0F01_0),
  ([0x0F, 0x01, 0x4B, 0x08], .sidt0F01_1),
  ([0x0F, 0x01, 0x15, 0xD2, 0xCD, 0x2B, 0x00], .lgdt0F01_2),
  ([0x0F, 0x01, 0x1D, 0x00, 0x20, 0x00, 0x00], .lidt0F01_3),
  ([0x0F, 0x01, 0xE1], .smsw0F01_4),
  ([0x0F, 0x01, 0xF1], .lmsw0F01_6),
  ([0x0F, 0x01, 0x7B, 0x08], .invlpg0F01_7),
  ([0x0F, 0x02, 0xD1], .lar0F02),
  ([0x0F, 0x03, 0xD1], .lsl0F03),
  ([0x0F, 0x06], .clts0F06),
  ([0x0F, 0x08], .invd0F08),
  ([0x0F, 0x09], .wbinvd0F09),
  ([0x0F, 0x0B], .ud20F0B),
  ([0x0F, 0x20, 0xC0], .movCr0F20),
  ([0x0F, 0x21, 0xD1], .movDr0F21),
  ([0x0F, 0x22, 0xD1], .movCr0F22),
  ([0x0F, 0x23, 0xD1], .movDr0F23),
  ([0x0F, 0x30], .wrmsr0F30),
  ([0x0F, 0x31], .rdtsc0F31),
  ([0x0F, 0x32], .rdmsr0F32),
  ([0x0F, 0x33], .rdpmc0F33),
  ([0x0F, 0x34], .sysenter0F34),
  ([0x0F, 0x35], .sysexit0F35),
  ([0x0F, 0xA2], .cpuid0FA2),
  ([0x0F, 0xAA], .rsm0FAA)]

theorem test_decode_system0 : systemWords0.all decodesTo = true := by decide +kernel

def flagsMiscWords0 : List (List Byte × Instr) := [
  ([0x90], .nop90),
  ([0x9B], .fwait9B),
  ([0x9C], .pushf9C),
  ([0x9D], .popf9D),
  ([0x9E], .sahf9E),
  ([0x9F], .lahf9F),
  ([0xF5], .cmcF5),
  ([0xF8], .clcF8),
  ([0xF9], .stcF9),
  ([0xFC], .cldFC),
  ([0xFD], .stdFD),
  ([0x0F, 0x1F, 0xD1], .nop0F1F)]

theorem test_decode_flagsmisc0 : flagsMiscWords0.all decodesTo = true := by decide +kernel

/-- The prefix bytes (30_encoding.md R112) before a nop. -/
def prefixWords : List (Byte × Instr) := [
  (0xF0, .prefixLock), (0xF2, .prefixRepnz), (0xF3, .prefixRepz), (0x26, .prefixEs), (0x2E, .prefixCs), (0x36, .prefixSs), (0x3E, .prefixDs), (0x64, .prefixFs), (0x65, .prefixGs), (0x66, .prefixOpsize), (0x67, .prefixAdsize)]

theorem test_decode_prefixes : (prefixWords.all fun p => (decode .long .long [p.1, 0x90]).prefixes == [p.2]) = true := by
  decide +kernel

/-- The dispatch entries over absent digits (30_encoding.md R134), and the escape over a null T2 entry. -/
def absentWords : List (List Byte × Instr) := [
  ([0x8F, 0xC8], .dispatch8F),
  ([0xC0, 0xF0], .dispatchC0),
  ([0xC1, 0xF0], .dispatchC1),
  ([0xC6, 0xC8], .dispatchC6),
  ([0xC7, 0xC8], .dispatchC7),
  ([0xD0, 0xF0], .dispatchD0),
  ([0xD1, 0xF0], .dispatchD1),
  ([0xD2, 0xF0], .dispatchD2),
  ([0xD3, 0xF0], .dispatchD3),
  ([0xF6, 0xC8], .dispatchF6),
  ([0xF7, 0xC8], .dispatchF7),
  ([0xFE, 0xD0], .dispatchFE),
  ([0xFF, 0xF8], .dispatchFF),
  ([0x0F, 0x00, 0xF0], .dispatch0F00),
  ([0x0F, 0x01, 0xE8], .dispatch0F01),
  ([0x0F, 0xBA, 0xC0], .dispatch0FBA),
  ([0x0F, 0xC7, 0xC0], .dispatch0FC7),
  ([0x0F, 0x04], .escape0F)]

theorem test_decode_absent : absentWords.all decodesTo = true := by decide +kernel

theorem test_decode_unknown : (decode .long .long [0xD8, 0xC0]).selected = .unknownOpcode 0xD8 [0xC0] := by decide +kernel

theorem test_decode_truncated : (decode .long .long [0x80, 0x38]).insn = none
    ∧ (decode .long .long [0x80]).selected = .row [] .dispatch80 0x80 [] := by decide +kernel

/-! The table's words (opcode_table.json): every row's word gives its row, but for XCHG66's, which is nop's (log entry 7). -/


def tableWords0 : List (Nat × Instr) := [
  (0xF0, .prefixLock), (0xF2, .prefixRepnz), (0xF3, .prefixRepz), (0x26, .prefixEs), (0x2E, .prefixCs),
  (0x36, .prefixSs), (0x3E, .prefixDs), (0x64, .prefixFs), (0x65, .prefixGs), (0x66, .prefixOpsize),
  (0x67, .prefixAdsize), (0xF, .escape0F), (0x0, .add00), (0x1, .add01), (0x2, .add02),
  (0x3, .add03), (0x4, .add04), (0x5, .add05), (0x8, .or08), (0x9, .or09),
  (0xA, .or0A), (0xB, .or0B), (0xC, .or0C), (0xD, .or0D), (0x10, .adc10),
  (0x11, .adc11), (0x12, .adc12), (0x13, .adc13), (0x14, .adc14), (0x15, .adc15),
  (0x18, .sbb18), (0x19, .sbb19), (0x1A, .sbb1A), (0x1B, .sbb1B), (0x1C, .sbb1C),
  (0x1D, .sbb1D), (0x20, .and20), (0x21, .and21), (0x22, .and22), (0x23, .and23),
  (0x24, .and24), (0x25, .and25), (0x28, .sub28), (0x29, .sub29), (0x2A, .sub2A),
  (0x2B, .sub2B), (0x2C, .sub2C), (0x2D, .sub2D), (0x30, .xor30), (0x31, .xor31),
  (0x32, .xor32), (0x33, .xor33), (0x34, .xor34), (0x35, .xor35), (0x38, .cmp38),
  (0x39, .cmp39), (0x3A, .cmp3A), (0x3B, .cmp3B), (0x3C, .cmp3C), (0x3D, .cmp3D),
  (0x6, .push06), (0xE, .push0E), (0x16, .push16), (0x1E, .push1E), (0x7, .pop07),
  (0x17, .pop17), (0x1F, .pop1F), (0x27, .daa27), (0x2F, .das2F), (0x37, .aaa37)]

theorem test_table_words0 : (tableWords0.all fun p => decodeTableWord 8 p.1 == some p.2) = true := by decide +kernel

def tableWords1 : List (Nat × Instr) := [
  (0x3F, .aas3F), (0x40, .inc40), (0x48, .dec48), (0x50, .push50), (0x58, .pop58),
  (0x60, .pusha60), (0x61, .popa61), (0x62, .bound62), (0x63, .arpl63), (0x68, .push68),
  (0x69, .imul69), (0x6A, .push6A), (0x6B, .imul6B), (0x6C, .ins6C), (0x6D, .ins6D),
  (0x6E, .outs6E), (0x6F, .outs6F), (0x70, .jo70), (0x71, .jno71), (0x72, .jb72),
  (0x73, .jae73), (0x74, .je74), (0x75, .jne75), (0x76, .jbe76), (0x77, .ja77),
  (0x78, .js78), (0x79, .jns79), (0x7A, .jp7A), (0x7B, .jnp7B), (0x7C, .jl7C),
  (0x7D, .jge7D), (0x7E, .jle7E), (0x7F, .jg7F), (0x80, .dispatch80), (0x8000, .add80_0),
  (0x8001, .or80_1), (0x8002, .adc80_2), (0x8003, .sbb80_3), (0x8004, .and80_4), (0x8005, .sub80_5),
  (0x8006, .xor80_6), (0x8007, .cmp80_7), (0x81, .dispatch81), (0x8100, .add81_0), (0x8101, .or81_1),
  (0x8102, .adc81_2), (0x8103, .sbb81_3), (0x8104, .and81_4), (0x8105, .sub81_5), (0x8106, .xor81_6),
  (0x8107, .cmp81_7), (0x82, .dispatch82), (0x8200, .add82_0), (0x8201, .or82_1), (0x8202, .adc82_2),
  (0x8203, .sbb82_3), (0x8204, .and82_4), (0x8205, .sub82_5), (0x8206, .xor82_6), (0x8207, .cmp82_7),
  (0x83, .dispatch83), (0x8300, .add83_0), (0x8301, .or83_1), (0x8302, .adc83_2), (0x8303, .sbb83_3),
  (0x8304, .and83_4), (0x8305, .sub83_5), (0x8306, .xor83_6), (0x8307, .cmp83_7), (0x84, .test84)]

theorem test_table_words1 : (tableWords1.all fun p => decodeTableWord 8 p.1 == some p.2) = true := by decide +kernel

def tableWords2 : List (Nat × Instr) := [
  (0x85, .test85), (0x86, .xchg86), (0x87, .xchg87), (0x88, .mov88), (0x89, .mov89),
  (0x8A, .mov8A), (0x8B, .mov8B), (0x8C, .mov8C), (0x8D, .lea8D), (0x8E, .mov8E),
  (0x8F, .dispatch8F), (0x8F00, .pop8F_0), (0x90, .nop90), (0x91, .xchg91), (0x98, .cwde98),
  (0x99, .cdq99), (0x9B, .fwait9B), (0x9C, .pushf9C), (0x9D, .popf9D), (0x9E, .sahf9E),
  (0x9F, .lahf9F), (0xA0, .movA0), (0xA1, .movA1), (0xA2, .movA2), (0xA3, .movA3),
  (0xA4, .movsA4), (0xA5, .movsA5), (0xA6, .cmpsA6), (0xA7, .cmpsA7), (0xA8, .testA8),
  (0xA9, .testA9), (0xAA, .stosAA), (0xAB, .stosAB), (0xAC, .lodsAC), (0xAD, .lodsAD),
  (0xAE, .scasAE), (0xAF, .scasAF), (0xB0, .movB0), (0xB8, .movB8), (0xC0, .dispatchC0),
  (0xC000, .rolC0_0), (0xC001, .rorC0_1), (0xC002, .rclC0_2), (0xC003, .rcrC0_3), (0xC004, .shlC0_4),
  (0xC005, .shrC0_5), (0xC007, .sarC0_7), (0xC1, .dispatchC1), (0xC100, .rolC1_0), (0xC101, .rorC1_1),
  (0xC102, .rclC1_2), (0xC103, .rcrC1_3), (0xC104, .shlC1_4), (0xC105, .shrC1_5), (0xC107, .sarC1_7),
  (0xC2, .retC2), (0xC3, .retC3), (0xC4, .lesC4), (0xC5, .ldsC5), (0xC6, .dispatchC6),
  (0xC600, .movC6_0), (0xC7, .dispatchC7), (0xC700, .movC7_0), (0xC9, .leaveC9), (0xCA, .retfCA),
  (0xCB, .retfCB), (0xCC, .int3CC), (0xCD, .intCD), (0xCE, .intoCE), (0xCF, .iretCF)]

theorem test_table_words2 : (tableWords2.all fun p => decodeTableWord 8 p.1 == some p.2) = true := by decide +kernel

def tableWords3 : List (Nat × Instr) := [
  (0xD0, .dispatchD0), (0xD000, .rolD0_0), (0xD001, .rorD0_1), (0xD002, .rclD0_2), (0xD003, .rcrD0_3),
  (0xD004, .shlD0_4), (0xD005, .shrD0_5), (0xD007, .sarD0_7), (0xD1, .dispatchD1), (0xD100, .rolD1_0),
  (0xD101, .rorD1_1), (0xD102, .rclD1_2), (0xD103, .rcrD1_3), (0xD104, .shlD1_4), (0xD105, .shrD1_5),
  (0xD107, .sarD1_7), (0xD2, .dispatchD2), (0xD200, .rolD2_0), (0xD201, .rorD2_1), (0xD202, .rclD2_2),
  (0xD203, .rcrD2_3), (0xD204, .shlD2_4), (0xD205, .shrD2_5), (0xD207, .sarD2_7), (0xD3, .dispatchD3),
  (0xD300, .rolD3_0), (0xD301, .rorD3_1), (0xD302, .rclD3_2), (0xD303, .rcrD3_3), (0xD304, .shlD3_4),
  (0xD305, .shrD3_5), (0xD307, .sarD3_7), (0xD4, .aamD4), (0xD5, .aadD5), (0xD7, .xlatD7),
  (0xE0, .loopneE0), (0xE1, .loopeE1), (0xE2, .loopE2), (0xE3, .jecxzE3), (0xE4, .inE4),
  (0xE5, .inE5), (0xE6, .outE6), (0xE7, .outE7), (0xE8, .callE8), (0xE9, .jmpE9),
  (0xEB, .jmpEB), (0xEC, .inEC), (0xED, .inED), (0xEE, .outEE), (0xEF, .outEF),
  (0xF4, .hltF4), (0xF5, .cmcF5), (0xF6, .dispatchF6), (0xF600, .testF6_0), (0xF602, .notF6_2),
  (0xF603, .negF6_3), (0xF604, .mulF6_4), (0xF605, .imulF6_5), (0xF606, .divF6_6), (0xF607, .idivF6_7),
  (0xF7, .dispatchF7), (0xF700, .testF7_0), (0xF702, .notF7_2), (0xF703, .negF7_3), (0xF704, .mulF7_4),
  (0xF705, .imulF7_5), (0xF706, .divF7_6), (0xF707, .idivF7_7), (0xF8, .clcF8), (0xF9, .stcF9)]

theorem test_table_words3 : (tableWords3.all fun p => decodeTableWord 8 p.1 == some p.2) = true := by decide +kernel

def tableWords4 : List (Nat × Instr) := [
  (0xFA, .cliFA), (0xFB, .stiFB), (0xFC, .cldFC), (0xFD, .stdFD), (0xFE, .dispatchFE),
  (0xFE00, .incFE_0), (0xFE01, .decFE_1), (0xFF, .dispatchFF), (0xFF00, .incFF_0), (0xFF01, .decFF_1),
  (0xFF02, .callFF_2), (0xFF03, .callfFF_3), (0xFF04, .jmpFF_4), (0xFF05, .jmpfFF_5), (0xFF06, .pushFF_6),
  (0xF00, .dispatch0F00), (0xF0000, .sldt0F00_0), (0xF0001, .str0F00_1), (0xF0002, .lldt0F00_2), (0xF0003, .ltr0F00_3),
  (0xF0004, .verr0F00_4), (0xF0005, .verw0F00_5), (0xF01, .dispatch0F01), (0xF0100, .sgdt0F01_0), (0xF0101, .sidt0F01_1),
  (0xF0102, .lgdt0F01_2), (0xF0103, .lidt0F01_3), (0xF0104, .smsw0F01_4), (0xF0106, .lmsw0F01_6), (0xF0107, .invlpg0F01_7),
  (0xF02, .lar0F02), (0xF03, .lsl0F03), (0xF06, .clts0F06), (0xF08, .invd0F08), (0xF09, .wbinvd0F09),
  (0xF0B, .ud20F0B), (0xF1F, .nop0F1F), (0xF20, .movCr0F20), (0xF21, .movDr0F21), (0xF22, .movCr0F22),
  (0xF23, .movDr0F23), (0xF30, .wrmsr0F30), (0xF31, .rdtsc0F31), (0xF32, .rdmsr0F32), (0xF33, .rdpmc0F33),
  (0xF34, .sysenter0F34), (0xF35, .sysexit0F35), (0xF40, .cmovo0F40), (0xF41, .cmovno0F41), (0xF42, .cmovb0F42),
  (0xF43, .cmovae0F43), (0xF44, .cmove0F44), (0xF45, .cmovne0F45), (0xF46, .cmovbe0F46), (0xF47, .cmova0F47),
  (0xF48, .cmovs0F48), (0xF49, .cmovns0F49), (0xF4A, .cmovp0F4A), (0xF4B, .cmovnp0F4B), (0xF4C, .cmovl0F4C),
  (0xF4D, .cmovge0F4D), (0xF4E, .cmovle0F4E), (0xF4F, .cmovg0F4F), (0xF80, .jo0F80), (0xF81, .jno0F81),
  (0xF82, .jb0F82), (0xF83, .jae0F83), (0xF84, .je0F84), (0xF85, .jne0F85), (0xF86, .jbe0F86)]

theorem test_table_words4 : (tableWords4.all fun p => decodeTableWord 8 p.1 == some p.2) = true := by decide +kernel

def tableWords5 : List (Nat × Instr) := [
  (0xF87, .ja0F87), (0xF88, .js0F88), (0xF89, .jns0F89), (0xF8A, .jp0F8A), (0xF8B, .jnp0F8B),
  (0xF8C, .jl0F8C), (0xF8D, .jge0F8D), (0xF8E, .jle0F8E), (0xF8F, .jg0F8F), (0xF90, .seto0F90),
  (0xF91, .setno0F91), (0xF92, .setb0F92), (0xF93, .setae0F93), (0xF94, .sete0F94), (0xF95, .setne0F95),
  (0xF96, .setbe0F96), (0xF97, .seta0F97), (0xF98, .sets0F98), (0xF99, .setns0F99), (0xF9A, .setp0F9A),
  (0xF9B, .setnp0F9B), (0xF9C, .setl0F9C), (0xF9D, .setge0F9D), (0xF9E, .setle0F9E), (0xF9F, .setg0F9F),
  (0xFA0, .push0FA0), (0xFA1, .pop0FA1), (0xFA2, .cpuid0FA2), (0xFA3, .bt0FA3), (0xFA4, .shld0FA4),
  (0xFA8, .push0FA8), (0xFA9, .pop0FA9), (0xFAA, .rsm0FAA), (0xFAB, .bts0FAB), (0xFAC, .shrd0FAC),
  (0xFAF, .imul0FAF), (0xFB0, .cmpxchg0FB0), (0xFB1, .cmpxchg0FB1), (0xFB2, .lss0FB2), (0xFB3, .btr0FB3),
  (0xFB4, .lfs0FB4), (0xFB5, .lgs0FB5), (0xFB6, .movzx0FB6), (0xFB7, .movzx0FB7), (0xFBA, .dispatch0FBA),
  (0xFBA04, .bt0FBA_4), (0xFBA05, .bts0FBA_5), (0xFBA06, .btr0FBA_6), (0xFBA07, .btc0FBA_7), (0xFBB, .btc0FBB),
  (0xFBC, .bsf0FBC), (0xFBD, .bsr0FBD), (0xFBE, .movsx0FBE), (0xFBF, .movsx0FBF), (0xFC0, .xadd0FC0),
  (0xFC1, .xadd0FC1), (0xFC7, .dispatch0FC7), (0xFC701, .cmpxchg8b0FC7_1), (0xFC8, .bswap0FC8)]

theorem test_table_words5 : (tableWords5.all fun p => decodeTableWord 8 p.1 == some p.2) = true := by decide +kernel

/-- A step from reset runs the placed word: lgdt (0f 01 /2) with MOD = 0, RM = 0. -/
theorem test_fetch_word :
    (match step (State.reset.withFetchWord 24 0x0F0102) with
      | .next t => t.status == some .ok && t.pos == 3 && t.di.bind (·.opkey) == some 0x0F0102
      | _ => false) = true := by decide +kernel

/-! Steps: fields and texts of 95_test_vectors.md. -/

/-- A context over a source holding exactly the bytes, as RESET with the defaults makes it. -/
def ctxOf (bs : List Byte) : State := { State.reset with src := Memory.writeBytes [] 0 bs, srcLen := bs.length }

/-- STATUS, POS - START, and OPKEY, REG, DISP, IMM after one step. -/
def outcome (s : State) : Option (Status × Nat × Option Nat × Option (BitVec 3) × Option Word × Option Word) :=
  match step s with
  | .next t =>
    match t.status, t.start, t.di with
    | some e, some p, some d => some (e, t.pos - p, d.opkey, d.reg, d.disp, d.imm)
    | _, _, _ => none
  | _ => none

/-- The text of FORMAT after one step. -/
def textOf (s : State) : Option FormatReply :=
  match step s with
  | .next t => (match formatOp t with | .next u => u.reply | _ => none)
  | _ => none

/-- The stages (95_test_vectors.md section 3). -/
def stageVectors : List (List Byte × Status × Nat × Option Nat × Option (BitVec 3) × Option Word × Option Word) := [
  ([0x66, 0x66, 0x01, 0xC1], .ok, 4, some 0x1, some 0, none, none),
  ([0x0F, 0x20, 0xC0], .ok, 3, some 0xF20, some 0, none, none),
  ([0xD8, 0xC0], .unknownOpcode, 1, some 0xD8, none, none, none),
  ([0x67, 0x8B, 0x06, 0x34, 0x12], .ok, 5, some 0x8B, some 0, some 0x1234, none),
  ([0x67, 0x8B, 0x84, 0x00, 0x80], .ok, 5, some 0x8B, some 0, some 0xFFFF8000, none),
  ([0xB0, 0xFF], .ok, 2, some 0xB0, some 0, none, some 0xFFFFFFFF),
  ([0x66, 0xE8, 0x00, 0x01, 0x00, 0x00], .ok, 6, some 0xE8, none, none, some 0x100),
  ([0x67, 0xA1, 0x34, 0x12], .ok, 4, some 0xA1, some 0, none, some 0x1234),
  ([0x1F], .ok, 1, some 0x1F, some 3, none, none),
  ([0xEC], .ok, 1, some 0xEC, some 2, none, none),
  ([0x0F, 0xC9], .ok, 2, some 0xFC9, some 1, none, none),
  ([0x66, 0xB8, 0x34, 0x12], .ok, 4, some 0xB8, some 0, none, some 0x1234)]

theorem test_step_stage : (stageVectors.all fun v => outcome (ctxOf v.1) == some v.2) = true := by decide +kernel

/-- Texts (95_test_vectors.md section 3). -/
def stageTexts : List (List Byte × String) := [
  ([0xF0, 0x01, 0x08], "lock add %ecx,(%eax)"),
  ([0xF3, 0xA5], "rep movsl %ds:(%esi),%es:(%edi)"),
  ([0xF2, 0xAE], "repnz scas %es:(%edi),%al"),
  ([0x2E, 0x8B, 0x00], "mov %cs:(%eax),%eax"),
  ([0x64, 0xA1, 0x00, 0x00, 0x00, 0x00], "mov %fs:0x0,%eax"),
  ([0x74, 0x80], "je 0xffffff82"),
  ([0x6A, 0x80], "push $0xffffff80"),
  ([0x93], "xchg %ebx,%eax"),
  ([0x0F, 0xB6, 0xC1], "movzbl %cl,%eax"),
  ([0xFF, 0x15, 0x00, 0x10, 0x00, 0x00], "call *0x1000"),
  ([0x66, 0x0F, 0x01, 0x15, 0xD2, 0xCD, 0x2B, 0x00], "lgdtw 0x2bcdd2"),
  ([0x69, 0xC1, 0x10, 0x00, 0x00, 0x00], "imul $0x10,%ecx,%eax")]

theorem test_text_stage : (stageTexts.all fun v => textOf (ctxOf v.1) == some ⟨.ok, some v.2⟩) = true := by decide +kernel

/-- A 16-bit memory operand decodes and has no text (49_formatter.md R520). -/
theorem test_text_sixteen_bit : textOf (ctxOf [0x67, 0x8B, 0x40, 0xFE]) = some ⟨.unsupportedAddressing, none⟩ := by decide +kernel

/-- Segment code 6 under SW has no name (49_formatter.md R513). -/
theorem test_text_segment_gap : textOf (ctxOf [0x8C, 0xF0]) = some ⟨.formatRuleGap, none⟩ := by decide +kernel

/-- The lea placeholder and the same bytes under mov (49_formatter.md R519). -/
theorem test_text_placeholder :
    textOf (ctxOf [0x8D, 0x04, 0x25, 0x78, 0x56, 0x34, 0x12]) = some ⟨.ok, some "lea 0x12345678(,%eiz,1),%eax"⟩
    ∧ textOf (ctxOf [0x8B, 0x04, 0x25, 0x78, 0x56, 0x34, 0x12]) = some ⟨.ok, some "mov 0x12345678,%eax"⟩ := by decide +kernel

/-- The tables of the host's own: REF given as such decodes alike (00_scope.md R13). -/
theorem test_custom_tables :
    (outcome { ctxOf [0x66, 0xC7, 0x05, 0x00, 0x30] with tables := .custom refTables }
      == outcome (ctxOf [0x66, 0xC7, 0x05, 0x00, 0x30])) = true := by
  decide +kernel

/-- A table with GROUP and no MODRM is refused (30_encoding.md R130, W1). -/
theorem test_table_refused :
    (match State.create { src := [], optable := .custom ⟨[(0x00, refDesc 0 0x2 .none [] "")], [], []⟩ } with
      | .refused .illFormedTable => true
      | _ => false) = true := by decide +kernel

/-- W9 bars FIXED_OP = quad beside IV, OPSZ_FIXED set or not; without IV it may stand (30_encoding.md R130). -/
theorem test_wf_quad_immediate : (refDesc 1 0x4 .quad [.iv] "x").wf = false ∧ (refDesc 1 0x0 .quad [.iv] "x").wf = false
    ∧ (refDesc 1 0x4 .quad [.ib] "x").wf = true := by decide

/-! Codes. -/

/-- The codes of 10_state.md R52, and that the other ten have no class. -/
theorem test_size_codes : [SizeClass.none, .byte, .word, .long, .quad, .full].map SizeClass.code = [0, 1, 2, 3, 4, 5]
    ∧ ([6, 7, 8, 9, 10, 11, 12, 13, 14, 15].all fun c => (SizeClass.ofCode c).isNone) = true := by decide

/-- The codes of 60_exceptions.md R602. -/
theorem test_status_codes : [Status.ok, .endOfStream, .unknownOpcode, .groupLookupFailed, .unsupportedAddressing, .formatRuleGap,
    .configAssert].map Status.code = [0, 1, 2, 3, 4, 5, 6] := by decide

/-- Codes of 30_encoding.md R124. -/
theorem test_tag_codes : [Tag.none, .dx, .m, .rd, .seg2, .ib, .ov, .yv].map Tag.code = [0, 4, 11, 12, 16, 22, 27, 33]
    ∧ Tag.ofCode 25 = .iv ∧ (Tag.ofCode 34).code = 34 := by decide

/-- SZOVR=0x01 of 95_test_vectors.md for 00 00, and no override for 03 05 (section 1.1); the address size stands in the high nibble. -/
theorem test_szovr_byte :
    (match step (ctxOf [0x00, 0x00]) with | .next t => t.di.map (·.szovr.byte) | _ => none) = some 0x01
    ∧ (match step (ctxOf [0x03, 0x05, 1, 0, 0, 0]) with | .next t => t.di.map (·.szovr.byte) | _ => none) = some 0x00
    ∧ (⟨.word, .long⟩ : Szovr).byte = 0x23 ∧ Szovr.ofByte 0x60 = none := by decide +kernel

/-- Size classes of 30_encoding.md R124 (R125). -/
theorem test_tag_sizes : [Tag.al, .dx, .gv, .m, .rd, .seg2, .cr, .ibs, .jv, .xb, .yv].map Tag.sizeClass
    = [.byte, .word, .full, .none, .long, .word, .long, .byte, .full, .byte, .full] := by decide

/-- A setter that runs returns OK, also when it changes nothing; a refused one has no code (60_exceptions.md R607). -/
theorem test_setter_status : (setDOp 0 State.reset).setStatus = some .ok ∧ (setPeOp 1 State.reset).setStatus = some .ok
    ∧ (setPosOp 1 (setDOp 0 State.reset)).setStatus = none ∧ (setPosOp 1 (setDOp 0 State.reset)).refusalMark = true := by decide

/-! How a run ended (00_scope.md R10). -/

/-- A context after one more host operation. -/
def afterRequest (r : Request) (s : State) : State :=
  match runRequest r s with
  | .next t => t
  | _ => s

/-- An empty source ends cleanly, and a SET_POS afterwards does not change that; 80 38 without its immediate ends inside an instruction. -/
theorem test_run_end :
    (afterRequest .decode (afterRequest .decode (ctxOf [0x90]))).cleanEnd = true
    ∧ (afterRequest (.setPos 0) (afterRequest .decode (afterRequest .decode (ctxOf [0x90])))).cleanEnd = true
    ∧ (afterRequest (.setPos 0) (afterRequest .decode (ctxOf [0x80, 0x38]))).truncated = true
    ∧ (afterRequest (.setPos 0) (afterRequest .decode (ctxOf [0x80, 0x38]))).endedInError = true
    ∧ (afterRequest .decode (ctxOf [0xD8])).endedInError = true ∧ (afterRequest .decode (ctxOf [0x90])).endedInError = false := by
  decide +kernel

/-! Memory. -/

theorem test_memory_canonical : Memory.write (Memory.write [] 5 7) 5 0 = [] ∧ Memory.write [(3, 1), (9, 2)] 4 8 = [(3, 1), (4, 8), (9, 2)] := by
  decide


/-! Witnesses: for each statement with hypotheses, a state and operands that meet them. -/

theorem supplies_ctxOf (bs : List Byte) : Supplies (ctxOf bs) bs :=
  ⟨[], by
    rw [List.append_nil]
    exact Memory.bytes_writeBytes (m := []) rfl 0 bs⟩

/-- A source whose context has begun a DECODE with the prefix 66. -/
def after66 (bs : List Byte) : State :=
  { ctxOf bs with start := some 0, di := some { Di.fresh with pfx := 0x200, opszSeen := true } }

theorem supplies_after66 (bs : List Byte) : Supplies (after66 bs) bs := supplies_ctxOf bs

/-- An instruction of a row: its digit or register 1, MOD = 3 and RM = 1, 12h as the immediate-class part. -/
def sample (i : Instr) : Insn :=
  ⟨i, i.shape.digit.getD (if i.shape.modRm || i.shape.lowReg then 1 else 0),
    if i.shape.modRm then ⟨3, 1, ⟨0, 0, 0⟩, 0⟩ else Rm.absent, if i.shape.imm.isSome then 0x12 else 0⟩

/-- A row's statement has a state and an instruction that meet its hypotheses. -/
def Met (p : RowSpec) : Prop :=
  ∃ (s : State) (x : Insn), x.row = p.row ∧ x.wf (sizesAt s) = true ∧ SizesLegal s ∧ Supplies s (encode (sizesAt s) x)

theorem met_of_wf {p : RowSpec} (h : (sample p.row).wf sizes = true) : Met p :=
  ⟨ctxOf (encode sizes (sample p.row)), sample p.row, rfl, h, ⟨.inr rfl, .inr rfl⟩, supplies_ctxOf _⟩

theorem met_xchg66 {p : RowSpec} (h : p.row = .xchg66_90) : Met p :=
  ⟨after66 (encode sizes66 (sample .xchg66_90)), sample .xchg66_90, h.symm, by decide, ⟨.inr rfl, .inr rfl⟩, supplies_after66 _⟩

theorem met_rows {rows : List RowSpec}
    (h : (rows.all fun p => (sample p.row).wf sizes || p.row == .xchg66_90) = true) : ∀ p ∈ rows, Met p := by
  intro p hp
  have := List.all_eq_true.mp h p hp
  simp only [Bool.or_eq_true, beq_iff_eq] at this
  exact this.elim met_of_wf met_xchg66

theorem witness_arithRows : ∀ p ∈ arithRows, Met p := met_rows (by decide +kernel)
theorem witness_shiftBitRows : ∀ p ∈ shiftBitRows, Met p := met_rows (by decide +kernel)
theorem witness_moveStackRows : ∀ p ∈ moveStackRows, Met p := met_rows (by decide +kernel)
theorem witness_controlRows : ∀ p ∈ controlRows, Met p := met_rows (by decide +kernel)
theorem witness_stringIoRows : ∀ p ∈ stringIoRows, Met p := met_rows (by decide +kernel)
theorem witness_systemRows : ∀ p ∈ systemRows, Met p := met_rows (by decide +kernel)
theorem witness_flagsMiscRows : ∀ p ∈ flagsMiscRows, Met p := met_rows (by decide +kernel)

/-- ResetCreates: an ill-formed table; arguments out of range, each; arguments at the ends of their ranges. -/
theorem witness_resetCreates :
    (OpTable.custom ⟨[(0x0F, refDesc 1 0 .none [] "x")], [], []⟩).tables.wf = false
    ∧ (OpTable.ref.tables.wf = true ∧ ([0x90] : List Byte).length < 2 ∧ 1 < 2)
    ∧ (OpTable.ref.tables.wf = true ∧ 1 ≤ ([0x90] : List Byte).length ∧ (0 : Nat) ≤ 1) :=
  ⟨by decide +kernel, ⟨refTables_wf, by decide, by decide⟩, ⟨refTables_wf, by decide, by decide⟩⟩

/-- The context over a source of one byte. -/
theorem inv_ctxOf_one (b : Byte) : (ctxOf [b]).Inv where
  srcWf := Memory.wf_writeBytes rfl 0 [b]
  srcBelow := by
    simp only [ctxOf, State.reset, Memory.writeBytes, Memory.write]
    split <;> simp [Memory.below]
  pos := Nat.zero_le _
  start := by intro p h; simp [ctxOf, State.reset] at h
  defOpsize := rfl
  defAdsize := rfl
  tables := refTables_wf
  status := rfl
  started := rfl
  decodeStatus := by intro e h; simp [ctxOf, State.reset] at h
  legal := by intro d h; simp [ctxOf, State.reset] at h
  valid := by intro d h; simp [ctxOf, State.reset] at h
  reply := by intro r h; simp [ctxOf, State.reset] at h
  setStatus := by intro e h; simp [ctxOf, State.reset] at h

theorem inv_ctxOf_nop : (ctxOf [0x90]).Inv := inv_ctxOf_one 0x90

/-- CreatedContextsInv. -/
theorem witness_createdContexts : ∃ s, State.create { src := [0x90] } = .next s :=
  ⟨_, by rw [State.create, if_pos (by exact refTables_wf), if_pos (by decide)]⟩

/-- StepKeepsInv, StepNeverStops, DefaultsStayWordOrLong, DecodeSetsNoMark. -/
theorem witness_inv : (ctxOf [0x90]).Inv ∧ (∃ t, step (ctxOf [0x90]) = .next t) ∧ (ctxOf [0x90]).tables = .ref
    ∧ ∃ t, decodeOp (ctxOf [0x90]) = .next t := ⟨inv_ctxOf_nop, ⟨_, rfl⟩, rfl, ⟨_, rfl⟩⟩

/-- ConfigAssertUnreachable. -/
theorem witness_configAssert : (ctxOf [0x90]).Inv ∧ refTables.wf = true := ⟨inv_ctxOf_nop, refTables_wf⟩

/-- StepRunsDecodedRow: without a prefix, and with one. -/
theorem witness_stepRunsDecodedRow :
    ((ctxOf [0x40]).requests = [] ∧ (ctxOf [0x40]).tables = .ref
      ∧ decode .long .long (ctxOf [0x40]).remaining
          = ⟨[], .row [] .inc40 0x40 [], some (⟨.inc40, 0, Rm.absent, 0⟩, [])⟩)
    ∧ decode .long .long (ctxOf [0x66, 0x40]).remaining
        = ⟨[.prefixOpsize], .row [] .inc40 0x40 [], some (⟨.inc40, 0, Rm.absent, 0⟩, [])⟩
    ∧ ∃ t, runRows [.prefixOpsize] (ctxOf [0x66, 0x40]).idle = .next t ∧ t.status = none :=
  ⟨⟨rfl, rfl, by decide +kernel⟩, by decide +kernel, ⟨_, rfl, by decide +kernel⟩⟩

/-- RowsArePipeline. -/
theorem witness_rowsArePipeline : (ctxOf [0x40]).tables = .ref := rfl

/-- DecodeEncode. -/
theorem witness_decodeEncode : (∀ p ∈ [Instr.prefixOpsize, .prefixLock], p ∈ prefixRows) ∧ (.add05 : Instr) ∉ prefixRows
    ∧ (⟨.add05, 0, Rm.absent, 0xFFFF⟩ : Insn).wf (sizesUnder .long .long [.prefixOpsize, .prefixLock]) = true := by
  decide +kernel

/-- EncodeDecode. -/
theorem witness_encodeDecode : (decode .long .long [0x66, 0x05, 0xFF, 0xFF, 0x90]).insn
    = some (⟨.add05, 0, Rm.absent, 0xFFFF⟩, [0x90]) := by decide +kernel

/-- PrefixRowsRecord, at the last byte of a source. -/
theorem witness_prefixRowsRecord : (Instr.prefixAdsize, 10) ∈ prefixBits ∧ (ctxOf [0x67]).pos + 1 ≤ (ctxOf [0x67]).srcLen := by
  decide +kernel

/-- PrefixRowsRecord, its second part. -/
theorem witness_repeatedPrefix : ∃ t u, exec .prefixOpsize (ctxOf [0x66, 0x66]) = .next t ∧ t.status = none
    ∧ exec .prefixOpsize t = .next u ∧ u.status = none := ⟨_, _, rfl, by decide +kernel, rfl, by decide +kernel⟩

/-- EscapeRow: cpuid, and a null entry. -/
theorem witness_escapeRow : (ctxOf [0x0F]).pos + 1 = (ctxOf [0x0F]).srcLen ∧ (Supplies (ctxOf [0x0F, 0xA2]) [0x0F, 0xA2] ∧ rowAt refT2 0xA2 = some Ref.cpuid0FA2)
    ∧ Supplies (ctxOf [0x0F, 0xFF]) [0x0F, 0xFF] ∧ rowAt refT2 0xFF = none :=
  ⟨rfl, ⟨supplies_ctxOf _, by decide +kernel⟩, supplies_ctxOf _, by decide +kernel⟩

/-- DispatchRows: a present digit and an absent one. -/
theorem witness_dispatchRows :
    (⟨.dispatchFE, .t1 0xFE, refDesc 0 0x3 .none [] ""⟩ : RowSpec) ∈ dispatchRows
    ∧ (⟨3, 1, ⟨0, 0, 0⟩, 0⟩ : Rm).wf .long = true ∧ SizesLegal (ctxOf [0xFE, 0xC9])
    ∧ (Supplies (ctxOf [0xFE, 0xC9]) (Instr.dispatchFE.shape.opcode ++ encodeRm .long 1 ⟨3, 1, ⟨0, 0, 0⟩, 0⟩)
      ∧ rowAt refTG (0xFE * 256 + 1) = some Ref.decFE_1)
    ∧ Supplies (ctxOf [0xFE, 0xD1]) (Instr.dispatchFE.shape.opcode ++ encodeRm .long 2 ⟨3, 1, ⟨0, 0, 0⟩, 0⟩)
    ∧ rowAt refTG (0xFE * 256 + 2) = none :=
  ⟨by decide +kernel, by decide, ⟨.inr rfl, .inr rfl⟩, ⟨supplies_ctxOf _, by decide +kernel⟩, supplies_ctxOf _, by decide +kernel⟩

/-- UnknownOneByteOpcode. -/
theorem witness_unknownOneByte : (ctxOf [0xD6]).requests = [] ∧ (ctxOf [0xD6]).tables = .ref ∧ Supplies (ctxOf [0xD6]) [0xD6]
    ∧ (0xD6 : Byte).toNat ∈ nullT1 := ⟨rfl, rfl, supplies_ctxOf _, by decide⟩

/-- EmptyRemainder. -/
theorem witness_emptyRemainder : State.reset.requests = [] ∧ State.reset.tables = .ref ∧ State.reset.srcLen ≤ State.reset.pos :=
  ⟨rfl, rfl, Nat.le_refl 0⟩

/-- TruncatedRows: 80 /7 ib cut before its immediate. -/
theorem witness_truncatedRows : (⟨.cmp80_7, 7, ⟨0, 0, ⟨0, 0, 0⟩, 0⟩, 5⟩ : Insn).wf (sizesAt (ctxOf [0x80, 0x38])) = true
    ∧ SizesLegal (ctxOf [0x80, 0x38])
    ∧ 2 < (encode (sizesAt (ctxOf [0x80, 0x38])) ⟨.cmp80_7, 7, ⟨0, 0, ⟨0, 0, 0⟩, 0⟩, 5⟩).length
    ∧ (ctxOf [0x80, 0x38]).remaining
      = (encode (sizesAt (ctxOf [0x80, 0x38])) ⟨.cmp80_7, 7, ⟨0, 0, ⟨0, 0, 0⟩, 0⟩, 5⟩).take 2 :=
  ⟨by decide +kernel, ⟨.inr rfl, .inr rfl⟩, by decide +kernel, by decide +kernel⟩

/-- RowFrame and RowsReadAtMostTwelve: a row that ends in success, one that raises, and a prefix row. -/
theorem witness_rowFrame : (∃ t, exec .nop90 (ctxOf [0x90]) = .next t) ∧ (.nop90 : Instr) ∉ prefixRows
    ∧ (∃ t, exec .nop90 State.reset = .next t ∧ t.status ≠ some .ok ∧ t.status ≠ some .configAssert)
    ∧ (∃ t, exec .prefixLock (ctxOf [0xF0]) = .next t) ∧ (.prefixLock : Instr) ∈ prefixRows :=
  ⟨⟨_, rfl⟩, by decide, ⟨_, rfl, by decide +kernel, by decide +kernel⟩, ⟨_, rfl⟩, by decide⟩

/-- ModeOnlyBySetters. -/
theorem witness_modeOnlyBySetters : (∀ v, Request.decode ≠ .setD v) ∧ (∀ v, Request.decode ≠ .setPe v)
    ∧ ∃ t, runRequest .decode (ctxOf [0x0F, 0x22, 0xC0]) = .next t :=
  ⟨fun _ h => by simp at h, fun _ h => by simp at h, ⟨_, rfl⟩⟩

/-- DecodeDeterministic: the same byte at two offsets of two sources. -/
theorem witness_decodeDeterministic : (ctxOf [0x90]).remaining = { ctxOf [0x00, 0x90] with pos := 1 }.remaining
    ∧ (∃ t, decodeOp (ctxOf [0x90]) = .next t) ∧ ∃ t, decodeOp { ctxOf [0x00, 0x90] with pos := 1 } = .next t :=
  ⟨by decide +kernel, ⟨_, rfl⟩, ⟨_, rfl⟩⟩

/-- CursorRead and CursorOtherWidth: exactly enough bytes, one too few, and a width of eight. -/
theorem witness_cursorRead : 4 ∈ [1, 2, 4] ∧ 4 ≤ (ctxOf [1, 2, 3, 4]).srcLen - (ctxOf [1, 2, 3, 4]).pos
    ∧ (ctxOf [1, 2, 3]).srcLen - (ctxOf [1, 2, 3]).pos < 4 ∧ 8 ∉ [1, 2, 4] := by decide +kernel

/-- ModThreeReadsNothing. -/
theorem witness_modThree : (ctxOf [0xFC]).pos + 1 ≤ (ctxOf [0xFC]).srcLen
    ∧ ((ctxOf [0xFC]).src.read 0).toNat = 0xC0 + (7 : BitVec 3).toNat * 8 + (4 : BitVec 3).toNat := by decide +kernel

/-- AddressSizeAsserted: a context whose default is neither word nor long, which no run reaches. -/
theorem witness_addressSizeAsserted : (ctxOf [0xBF]).pos + 1 ≤ (ctxOf [0xBF]).srcLen ∧ ((ctxOf [0xBF]).src.read 0).toNat < 0xC0
    ∧ adsize Ref.add00 ⟨{ ctxOf [0xBF] with defAdsize := .quad }, Di.fresh⟩ ≠ .word
    ∧ adsize Ref.add00 ⟨{ ctxOf [0xBF] with defAdsize := .quad }, Di.fresh⟩ ≠ .long := by decide +kernel

/-- EffectiveSizes. -/
theorem witness_effectiveSizes : SizesLegal State.reset := ⟨.inr rfl, .inr rfl⟩

/-- HostContractRefusals and FaultMarkStays: the marks set, and a step. -/
theorem witness_marks : ∃ t, step { ctxOf [0x90] with refusalMark := true, faultMark := true } = .next t := ⟨_, rfl⟩

/-- SetDefaultWidth, SetProtectedMode, SetPosition: each clause at the ends of its range. -/
theorem witness_setters : (1 ≤ 1 ∧ ((1 : Nat) == 1) = State.reset.dflag) ∧ (0 ≤ 1 ∧ ((0 : Nat) == 1) ≠ State.reset.dflag) ∧ 1 < 2
    ∧ ((1 : Nat) == 1) = State.reset.pe ∧ ((0 : Nat) == 1) ≠ State.reset.pe
    ∧ 1 ≤ (ctxOf [0x90]).srcLen ∧ (ctxOf [0x90]).srcLen < 2 := by decide +kernel

/-- SourceChange, at the last byte. -/
theorem witness_sourceChange : (ctxOf [0x90]).src.wf = true ∧ 0 < (ctxOf [0x90]).srcLen
    ∧ ∃ t, runRequest (.sourceByte 0 0x40) (ctxOf [0x90]) = .next t := ⟨by decide +kernel, by decide +kernel, ⟨_, rfl⟩⟩

/-- A context whose record is that of `83 c0 ff`. -/
def formatted : State :=
  match step (ctxOf [0x83, 0xC0, 0xFF]) with
  | .next t => t
  | _ => State.reset

/-- FormatWritesNothing: with a text. -/
theorem witness_formatWritesNothing : ∃ t, formatOp formatted = .next t ∧ t.reply = some ⟨.ok, some "add $0xffffffff,%eax"⟩ :=
  ⟨match formatOp formatted with | .next t => t | _ => State.reset, rfl, by decide +kernel⟩

/-- FormatRefused: no DECODE, and a mode change after one. -/
theorem witness_formatRefused : State.reset.status ≠ some .ok
    ∧ ((setDOp 0 formatted).status = some .ok
      ∧ (setDOp 0 formatted).fmtDefs ≠ some ((setDOp 0 formatted).defOpsize, (setDOp 0 formatted).defAdsize)) := by
  decide +kernel

/-- ImmediateText: the immediate and an operand size with a byte count. -/
theorem witness_immediateText : ({ Di.fresh with imm := some 0xFFFFFFFF } : Di).imm = some 0xFFFFFFFF
    ∧ sizeBytes (opsize Ref.add05 ⟨State.reset, Di.fresh⟩) = some 4 := by decide +kernel

/-- SegmentText: both sides of code 6. -/
theorem witness_segmentText : Tag.sw ∈ [Tag.sw, .seg2, .fs, .gs] ∧ ({ Di.fresh with reg := some 5 } : Di).reg = some 5
    ∧ ({ Di.fresh with reg := some 6 } : Di).reg = some 6 := by decide

/-- ParenText: a record with a SIB byte, and one without. -/
theorem witness_parenText : (({ Di.fresh with scale := 4, index := some 1, base := some 6 } : Di).scale ≠ 0
      → ({ Di.fresh with scale := 4, index := some 1, base := some 6 } : Di).index = some 1
        ∧ ({ Di.fresh with scale := 4, index := some 1, base := some 6 } : Di).base = some 6)
    ∧ (Di.fresh.scale ≠ 0 → Di.fresh.index = some 0 ∧ Di.fresh.base = some 0) := by decide

/-- SixteenBitAddressing. -/
theorem witness_sixteenBit : Tag.ev ∈ [Tag.eb, .ew, .ev, .m, .rd] ∧ (0 : BitVec 2) ≠ 3
    ∧ adsize Ref.mov8B ⟨State.reset, { Di.fresh with adszSeen := true, mod := some 0, rm := some 6 }⟩ ≠ .long := by decide +kernel

/-- RelativeTarget. -/
theorem witness_relativeTarget : sizeBytes (adsize Ref.jmpEB ⟨{ State.reset with start := some 0 }, Di.fresh⟩) = some 4 := by
  decide +kernel

/-- SzovrByte: add %al,(%eax) succeeds and DESC names a descriptor with a fixed operand size. -/
theorem witness_szovrByte : ∃ t r, exec .add00 (ctxOf [0x00, 0x00]) = .next t ∧ t.status = some .ok ∧ t.di = some r
    ∧ r.desc = some (.t1 0) ∧ (DescRef.t1 0).resolve refTables Ref.xchg66_90 = some Ref.add00 :=
  ⟨_, _, rfl, by decide +kernel, rfl, by decide +kernel, by decide +kernel⟩

/-- RunEnd: a clean end, a truncated one, and an end in UNKNOWN_OPCODE, each from a state of the invariant; SET_POS is no DECODE. -/
theorem witness_runEnd :
    (∃ s t, s.Inv ∧ decodeOp s = .next t ∧ t.status = some .endOfStream ∧ t.cleanEnd = true)
    ∧ (∃ s t, s.Inv ∧ decodeOp s = .next t ∧ t.status = some .endOfStream ∧ t.truncated = true)
    ∧ (∃ s t, s.Inv ∧ decodeOp s = .next t ∧ t.status = some .unknownOpcode)
    ∧ Request.setPos 0 ≠ .decode ∧ ∃ t, runRequest (.setPos 0) (ctxOf [0x90]) = .next t :=
  ⟨⟨{ ctxOf [0x90] with pos := 1 }, _, { inv_ctxOf_nop with pos := by decide }, rfl, by decide +kernel, by decide +kernel⟩,
    ⟨ctxOf [0x0F], _, inv_ctxOf_one 0x0F, rfl, by decide +kernel, by decide +kernel⟩,
    ⟨ctxOf [0xD8], _, inv_ctxOf_one 0xD8, rfl, by decide +kernel⟩, by decide, _, rfl⟩

/-- SetterReturns: each setter on both sides of its range, and an operation that is no setter. -/
theorem witness_setterReturns :
    (∃ t, runRequest (.setD 1) (ctxOf [0x90]) = .next t) ∧ (∃ t, runRequest (.setD 2) (ctxOf [0x90]) = .next t)
    ∧ (∃ t, runRequest (.setPe 1) (ctxOf [0x90]) = .next t) ∧ (∃ t, runRequest (.setPe 2) (ctxOf [0x90]) = .next t)
    ∧ (∃ t, runRequest (.setPos 1) (ctxOf [0x90]) = .next t) ∧ (∃ t, runRequest (.setPos 2) (ctxOf [0x90]) = .next t)
    ∧ (∀ v, Request.decode ≠ .setD v) ∧ (∀ v, Request.decode ≠ .setPe v) ∧ (∀ p, Request.decode ≠ .setPos p)
    ∧ ∃ t, runRequest .decode (ctxOf [0x90]) = .next t :=
  ⟨⟨_, rfl⟩, ⟨_, rfl⟩, ⟨_, rfl⟩, ⟨_, rfl⟩, ⟨_, rfl⟩, ⟨_, rfl⟩, by simp, by simp, by simp, _, rfl⟩

/-- RegisterText: both clauses, for GB at code 7 and EV with MOD = 3 under a 32-bit operand size. -/
theorem witness_registerText :
    (SizeClass.byte = (if Tag.gb.sizeClass = .full ∨ Tag.gb = .m then opsize Ref.add00 ⟨State.reset, Di.fresh⟩ else Tag.gb.sizeClass)
      ∧ sizeBytes .byte = some 1 ∧ ({ Di.fresh with reg := some 7 } : Di).reg = some 7)
    ∧ SizeClass.long = (if Tag.ev.sizeClass = .full ∨ Tag.ev = .m then opsize Ref.add01 ⟨State.reset, Di.fresh⟩ else Tag.ev.sizeClass)
      ∧ sizeBytes .long = some 4 ∧ ({ Di.fresh with mod := some 3, rm := some 7 } : Di).mod = some 3
      ∧ ({ Di.fresh with mod := some 3, rm := some 7 } : Di).rm = some 7 := by decide +kernel

end Sys2Proof.Tests
end

/-! SUPPORT. DECODE does not read the record and the STATUS of the context it works over: a stage gives the same result from a context
whose two fields are stale. The rows enter each DECODE anew and the pipeline does not, so this is what lets the two be compared. -/

namespace Sys2Proof.Machine

/-- The same point of a DECODE, over a context that holds another record and STATUS. -/
def Work.stale (r : Option Di) (e : Option Status) (w : Work) : Work := ⟨{ w.ctx with di := r, status := e }, w.di⟩

/-- The same for what a stage leaves: only a DECODE that goes on still has a context under it. -/
def Flow.stale (r : Option Di) (e : Option Status) : Flow → Flow
  | .go w => .go (w.stale r e)
  | .ended s => .ended s

/-- A stage that reads neither the context's record nor its STATUS. -/
def Blind (k : Work → Flow) : Prop := ∀ r e w, k (w.stale r e) = (k w).stale r e

@[simp] theorem Flow.state_stale (r : Option Di) (e : Option Status) (f : Flow) : (f.stale r e).state = f.state := by
  cases f <;> rfl

theorem Blind.state {k : Work → Flow} (h : Blind k) (r : Option Di) (e : Option Status) (w : Work) :
    (k (w.stale r e)).state = (k w).state := by
  rw [h r e w, Flow.state_stale]

theorem go_blind : Blind Flow.go := fun _ _ _ => rfl

/-- A write to the record. -/
theorem write_blind {g : Work → Work} (h : ∀ r e w, g (w.stale r e) = (g w).stale r e) : Blind fun w => .go (g w) :=
  fun r e w => congrArg Flow.go (h r e w)

/-- A stage behind a write to the record. -/
theorem Blind.after {k : Work → Flow} (hk : Blind k) {g : Work → Work} (h : ∀ r e w, g (w.stale r e) = (g w).stale r e) :
    Blind fun w => k (g w) :=
  fun r e w => (congrArg k (h r e w)).trans (hk r e (g w))

theorem Blind.andThen {j k : Work → Flow} (hj : Blind j) (hk : Blind k) : Blind fun w => (j w).andThen k := by
  intro r e w
  simp only [hj r e w]
  cases j w with
  | go w' => exact hk r e w'
  | ended s => rfl

theorem Blind.ite {p : Work → Prop} [DecidablePred p] (hp : ∀ r e w, p (w.stale r e) ↔ p w) {j k : Work → Flow}
    (hj : Blind j) (hk : Blind k) : Blind fun w => if p w then j w else k w := by
  intro r e w
  by_cases h : p w
  · simpa only [if_pos h, if_pos ((hp r e w).mpr h)] using hj r e w
  · simpa only [if_neg h, if_neg (mt (hp r e w).mp h)] using hk r e w

theorem raise_blind (x : Status) : Blind (raise x) := fun _ _ _ => rfl

theorem complete_blind : Blind complete := fun _ _ _ => rfl

theorem advance_blind (n : Nat) : Blind (advance n) :=
  Blind.ite (fun _ _ _ => Iff.rfl)
    (Blind.ite (fun _ _ _ => Iff.rfl) (fun _ _ _ => rfl) (raise_blind .endOfStream)) (raise_blind .configAssert)

theorem readN_blind (n : Nat) {k : Nat → Work → Flow} (hk : ∀ v, Blind (k v)) : Blind fun w => readN n w k := by
  intro r e w
  exact (advance_blind n).andThen (hk (w.ctx.src.readLE w.ctx.pos n)) r e w

theorem readByte_blind {k : Byte → Work → Flow} (hk : ∀ b, Blind (k b)) : Blind fun w => readByte w k :=
  readN_blind 1 fun v => hk (BitVec.ofNat 8 v)

theorem readDisp_blind (n : Nat) (c : SizeClass) : Blind (readDisp n c) :=
  readN_blind n fun _ => write_blind fun _ _ _ => rfl

theorem readImm_blind (n : Nat) (f : Nat → Word) : Blind (readImm n f) :=
  readN_blind n fun _ => write_blind fun _ _ _ => rfl

theorem disp32_blind (mod : BitVec 2) (rm : BitVec 3) : Blind (disp32 mod rm) :=
  Blind.ite (fun _ _ _ => Iff.rfl) (readDisp_blind 4 .long) <|
    Blind.ite (fun _ _ _ => Iff.rfl) (readDisp_blind 1 .byte) <|
      Blind.ite (fun _ _ _ => Iff.rfl) (readDisp_blind 4 .long) go_blind

theorem disp16_blind (mod : BitVec 2) (rm : BitVec 3) : Blind (disp16 mod rm) :=
  Blind.ite (fun _ _ _ => Iff.rfl) (readDisp_blind 2 .word) <|
    Blind.ite (fun _ _ _ => Iff.rfl) (readDisp_blind 1 .byte) <|
      Blind.ite (fun _ _ _ => Iff.rfl) (readDisp_blind 2 .word) go_blind

theorem addressing_blind (a : SizeClass) (mod : BitVec 2) (rm : BitVec 3) : Blind (addressing a mod rm) := by
  cases a
  case long =>
    exact Blind.ite (fun _ _ _ => Iff.rfl) (readByte_blind fun _ => (disp32_blind mod rm).after fun _ _ _ => rfl)
      (disp32_blind mod rm)
  case word => exact disp16_blind mod rm
  all_goals exact raise_blind .configAssert

theorem modRm_blind (d : Desc) : Blind (modRm d) :=
  readByte_blind fun b => Blind.ite (fun _ _ _ => Iff.rfl) (write_blind fun _ _ _ => rfl) fun r e w =>
    addressing_blind (adsize d (setModRm b w)) (topField b) (lowField b) r e (setModRm b w)

theorem modRmStage_blind (d : Desc) : Blind (modRmStage d) :=
  Blind.ite (fun _ _ _ => Iff.rfl) (modRm_blind d) go_blind

theorem extractTag_blind (d : Desc) (t : Tag) : Blind (extractTag d t) := by
  intro r e w
  cases t
  case ib | iw | il | iv | ibs | ov | jb | jv => exact readImm_blind _ _ r e w
  all_goals rfl

theorem extractTags_blind (d : Desc) (ts : List Tag) : Blind (extractTags d ts) := by
  induction ts with
  | nil => exact fun _ _ _ => rfl
  | cons t ts ih =>
    cases t
    case none => exact fun _ _ _ => rfl
    all_goals exact (extractTag_blind d _).andThen ih

theorem operandStage_blind (d : Desc) : Blind (operandStage d) := (extractTags_blind d d.tags).andThen complete_blind

theorem finishRow_blind (ref : DescRef) (key : Nat) (d : Desc) : Blind (finishRow ref key d) :=
  ((modRmStage_blind d).after fun _ _ _ => rfl).andThen (operandStage_blind d)

theorem lookupFailed_blind (key : Nat) (x : Status) : Blind (lookupFailed key x) := (raise_blind x).after fun _ _ _ => rfl

theorem resolveGroup_blind (tg : Nat → Option Desc) (primary : Nat) : Blind (resolveGroup tg primary) := by
  intro r e w
  unfold resolveGroup
  simp only [Work.stale]
  split
  · split
    · rfl
    · exact lookupFailed_blind _ _ r e w
  · exact lookupFailed_blind _ _ r e w

theorem afterLookup_blind (tg : Nat → Option Desc) (ref : DescRef) (key : Nat) (found : Option Desc) :
    Blind (afterLookup tg ref key found) := by
  cases found with
  | none => exact lookupFailed_blind key .unknownOpcode
  | some d =>
    refine ((modRmStage_blind d).after (g := select ref key d) fun _ _ _ => rfl).andThen
      (Blind.ite (fun _ _ _ => Iff.rfl) ?_ (operandStage_blind d))
    refine (resolveGroup_blind tg key).andThen fun r e w => ?_
    simp only [Work.stale]
    split
    · exact operandStage_blind _ r e w
    · rfl

theorem resolveOpcode_blind (t : Tables) : Blind (resolveOpcode t) := by
  refine readByte_blind fun b => Blind.ite (fun _ _ _ => Iff.rfl) ?_ (Blind.ite (fun _ _ _ => Iff.rfl) ?_ ?_)
  · exact (finishRow_blind .xchg66 0x90 Ref.xchg66_90).after (g := latchOpcode b) fun _ _ _ => rfl
  · exact (readByte_blind fun b2 =>
      (afterLookup_blind (rowAt t.tg) (.t2 b2) (0x0F00 + b2.toNat) (rowAt t.t2 b2.toNat)).after
        (g := latchOpcode b2) fun _ _ _ => rfl).after (g := latchOpcode b) fun _ _ _ => rfl
  · exact (afterLookup_blind (rowAt t.tg) (.t1 b) b.toNat (rowAt t.t1 b.toNat)).after (g := latchOpcode b) fun _ _ _ => rfl

end Sys2Proof.Machine

/-! SUPPORT. The opcode maps of the decoder and the tables of REF, row by row: the row that an entry names means what the form of the
descriptor at the same key says. -/

namespace Sys2Proof.Machine

/-- The descriptor of every group-dispatch entry of REF (30_encoding.md R134). -/
def groupDesc : Desc := refDesc 0 0x3 .none [] ""

/-- The shared operation of a one-byte row at the opcode byte `b`. -/
def oneByteRow (i : Instr) (b : Byte) (d : Desc) : State → Result :=
  if i.shape.lowReg then oneByteReg (b &&& 0xF8) d else oneByte b d

/-- The shared operation of a two-byte row at the second byte `b`. -/
def twoByteRow (i : Instr) (b : Byte) (d : Desc) : State → Result :=
  if i.shape.lowReg then twoByteReg (b &&& 0xF8) d else twoByte b d

/-- The shared operation of the row at a group key (R117, R118). -/
def memberRow (key : Nat) (d : Desc) : State → Result :=
  if key < 0x10000 then oneByteMember (BitVec.ofNat 8 (key / 256)) groupDesc (key % 256) d
  else twoByteMember (BitVec.ofNat 8 (key / 256)) groupDesc (key % 256) d

/-- An entry of the decoder's map and the descriptor of REF at the same key say the same: the entry's row means what the descriptor's
form says. -/
def EntryAgrees (key : Nat) (d : Desc) (row : Instr → State → Result) (dispatch : State → Result) : Entry → Prop
  | .null => False
  | .row i => d.group = false ∧ exec i = row i
  | .group k i => (k = key ∧ d = groupDesc) ∧ exec i = dispatch

theorem mem_of_rowAt {rows : List Row} {k : Nat} {d : Desc} (h : rowAt rows k = some d) : (k, d) ∈ rows := by
  induction rows with
  | nil => cases h
  | cons r rows ih =>
    obtain ⟨k', d'⟩ := r
    by_cases hk : k' = k
    · simp_all [rowAt]
    · exact List.mem_cons_of_mem _ (ih (by simpa [rowAt, hk] using h))

/-- The one-byte map, each row of the table beside its entry. -/
theorem refT1_agrees : ∀ r ∈ refT1, EntryAgrees r.1 r.2 (oneByteRow · (BitVec.ofNat 8 r.1) r.2)
    (oneByteDispatch (rowAt refTG) (BitVec.ofNat 8 r.1) groupDesc) (t1Entry r.1) := by
  refine List.forall_iff_forall_mem.mp ?_
  and_intros <;> rfl

/-- The two-byte map, likewise. -/
theorem refT2_agrees : ∀ r ∈ refT2, EntryAgrees (0x0F00 + r.1) r.2 (twoByteRow · (BitVec.ofNat 8 r.1) r.2)
    (twoByteDispatch (rowAt refTG) (BitVec.ofNat 8 r.1) groupDesc) (t2Entry r.1) := by
  refine List.forall_iff_forall_mem.mp ?_
  and_intros <;> rfl

/-- The group map: each row of the table beside the row at its key. -/
theorem refTG_agrees : ∀ r ∈ refTG, (tgRow r.1).map exec = some (memberRow r.1 r.2) := by
  refine List.forall_iff_forall_mem.mp ?_
  and_intros <;> rfl

theorem t1Entry_eq_null : ∀ b : Byte, rowAt refT1 b.toNat = none → t1Entry b.toNat = .null := by decide +kernel

theorem t2Entry_eq_null : ∀ b : Byte, rowAt refT2 b.toNat = none → t2Entry b.toNat = .null := by decide +kernel

/-- A digit without a row is absent from both, under every group of the one-byte map (R134). -/
theorem tgRow_isNone_t1 : ∀ p ∈ refT1, p.2.group = true → ∀ r : BitVec 3,
    (tgRow (p.1 * 256 + r.toNat)).isNone = (rowAt refTG (p.1 * 256 + r.toNat)).isNone := by decide +kernel

/-- The same under every group of the two-byte map. -/
theorem tgRow_isNone_t2 : ∀ p ∈ refT2, p.2.group = true → ∀ r : BitVec 3,
    (tgRow ((0x0F00 + p.1) * 256 + r.toNat)).isNone = (rowAt refTG ((0x0F00 + p.1) * 256 + r.toNat)).isNone := by decide +kernel

theorem exec_escape0F : exec .escape0F = escapeRow (rowAt refT2) := rfl

theorem exec_xchg66_90 : exec .xchg66_90 = hardCoded 0x90 Ref.xchg66_90 := rfl

/-- The opcode byte of a row with a register in it is what its high bits and the register give (R116). -/
theorem regByte_lowField : ∀ b : Byte, regByte (b &&& 0xF8) (lowField b) = b := by decide

/-- The rows of the eleven prefixes record them (R112, R165). -/
theorem prefixOf_map_exec (b : Byte) : (prefixOf b).map exec = (prefixBit b).map prefixRow := by
  unfold prefixOf prefixBit
  simp only [apply_ite (Option.map _), Option.map_some, Option.map_none]
  rfl

/-- PFX bit 9 stands for 66 (R112). -/
theorem prefixOf_map_opsize : ∀ b : Byte,
    (prefixOf b).map (Instr.prefixOpsize == ·) = (prefixBit b).map (· == 9) := by decide +kernel

end Sys2Proof.Machine

/-! SUPPORT. Over REF, DECODE by the rows that the decoder selects is the pipeline of R161 to R198. -/

namespace Sys2Proof.Machine

/-! Reading the next byte that the source can supply. -/

/-- The DECODE one byte further on. -/
def Work.skip (w : Work) : Work := ⟨{ w.ctx with pos := w.ctx.pos + 1 }, w.di⟩

@[simp] theorem Work.skip_di (w : Work) : w.skip.di = w.di := rfl

theorem remaining_eq_nil {s : State} : s.remaining = [] ↔ s.srcLen ≤ s.pos := by
  rw [← List.length_eq_zero_iff, State.remaining, Memory.bytes_length]
  omega

theorem Work.remaining_of_lt {w : Work} (h : w.ctx.pos < w.ctx.srcLen) :
    w.ctx.remaining = w.ctx.src.read w.ctx.pos :: w.skip.ctx.remaining := by
  have hlen : w.ctx.srcLen - w.ctx.pos = (w.ctx.srcLen - (w.ctx.pos + 1)) + 1 := by omega
  simp only [State.remaining, hlen, Memory.bytes, Work.skip]

theorem readByte_nil {w : Work} (h : w.ctx.remaining = []) (k : Byte → Work → Flow) :
    readByte w k = raise .endOfStream w :=
  readN_short (.inl rfl) (by have := remaining_eq_nil.mp h; omega) _

theorem pos_lt_of_remaining {w : Work} {b : Byte} {bs : List Byte} (h : w.ctx.remaining = b :: bs) :
    w.ctx.pos < w.ctx.srcLen := by
  by_contra hge
  simp [remaining_eq_nil.mpr (Nat.not_lt.mp hge)] at h

theorem skip_remaining {w : Work} {b : Byte} {bs : List Byte} (h : w.ctx.remaining = b :: bs) :
    w.skip.ctx.remaining = bs := by
  rw [Work.remaining_of_lt (pos_lt_of_remaining h)] at h
  exact (List.cons.inj h).2

theorem readByte_cons {w : Work} {b : Byte} {bs : List Byte} (h : w.ctx.remaining = b :: bs) (k : Byte → Work → Flow) :
    readByte w k = k b w.skip := by
  have hlt := pos_lt_of_remaining h
  rw [Work.remaining_of_lt hlt] at h
  exact (List.cons.inj h).1 ▸ readByte_supplied hlt k

/-! PrefixScan(). -/

/-- The DECODE after the prefixes of these bytes, each consumed and recorded (R164, R165). -/
def Work.scanned : List Byte → Work → Work
  | [], w => w
  | b :: bs, w =>
    match prefixBit b with
    | some i => Work.scanned bs (recordPrefix i w.skip)
    | none => w

theorem scanned_remaining {bs : List Byte} {w : Work} (h : w.ctx.remaining = bs) :
    (w.scanned bs).ctx.remaining = (scanPrefixes bs).2 := by
  induction bs generalizing w with
  | nil => exact h
  | cons b bs ih =>
    have hmap := prefixOf_map_exec b
    cases hb : prefixBit b with
    | none => simp_all [Work.scanned, scanPrefixes]
    | some i =>
      obtain ⟨p, hp, -⟩ := Option.map_eq_some_iff.mp (hmap.trans (congrArg _ hb))
      simpa [Work.scanned, scanPrefixes, hb, hp] using ih (w := recordPrefix i w.skip) (skip_remaining h)

theorem scanned_opszSeen (bs : List Byte) (w : Work) :
    (w.scanned bs).di.opszSeen = (w.di.opszSeen || (scanPrefixes bs).1.contains .prefixOpsize) := by
  induction bs generalizing w with
  | nil => simp [Work.scanned, scanPrefixes]
  | cons b bs ih =>
    have hmap := prefixOf_map_opsize b
    cases hb : prefixBit b with
    | none => simp_all [Work.scanned, scanPrefixes]
    | some i =>
      obtain ⟨p, hp, hi⟩ := Option.map_eq_some_iff.mp (hmap.trans (congrArg _ hb))
      simp only [Work.scanned, hb, ih, recordPrefix_opszSeen, Work.skip_di, scanPrefixes, hp, List.contains_cons, hi,
        Bool.or_assoc]

theorem stepBack_skip (w : Work) : stepBack w.skip = w := rfl

/-- PrefixScan() stops at the first byte that has no PFX bit, or where the source ends (R164 to R166). -/
theorem prefixScan_eq {bs : List Byte} {w : Work} (h : w.ctx.remaining = bs) {fuel : Nat} (hf : bs.length < fuel) :
    prefixScan fuel w =
      if (w.scanned bs).ctx.remaining = [] then raise .endOfStream (w.scanned bs) else .go (w.scanned bs) := by
  induction bs generalizing w fuel with
  | nil =>
    obtain ⟨fuel, rfl⟩ := Nat.exists_eq_add_of_lt hf
    simp [prefixScan, readByte_nil h, Work.scanned, h]
  | cons b bs ih =>
    obtain ⟨n, rfl⟩ := Nat.exists_eq_add_of_lt hf
    rw [prefixScan, readByte_cons h _]
    cases hb : prefixBit b with
    | none => simp [Work.scanned, hb, h, stepBack_skip]
    | some i =>
      simp only [Work.scanned, hb]
      exact ih (w := recordPrefix i w.skip) (skip_remaining h) (by simp only [List.length_cons]; omega)

/-- The rows of the prefixes, run one after another from a state that enters DECODE where the scan begins, leave a DECODE that goes on
where the scan ends. -/
theorem runRows_scanned {bs : List Byte} {w : Work} (h : w.ctx.remaining = bs) {s : State}
    (hs : ∃ r e, enter s = w.stale r e) :
    ∃ t, runRows (scanPrefixes bs).1 s = .next t ∧ ((scanPrefixes bs).1 ≠ [] → t.status = none)
      ∧ ∃ r e, enter t = (w.scanned bs).stale r e := by
  induction bs generalizing w s with
  | nil => exact ⟨s, rfl, fun h => absurd rfl h, hs⟩
  | cons b bs ih =>
    have hmap := prefixOf_map_exec b
    cases hb : prefixBit b with
    | none =>
      have hp : prefixOf b = none := by simpa [hb] using hmap
      simpa [scanPrefixes, hp, Work.scanned, hb, runRows] using hs
    | some i =>
      obtain ⟨p, hp, hx⟩ := Option.map_eq_some_iff.mp (hmap.trans (congrArg _ hb))
      obtain ⟨r, e, hs⟩ := hs
      have hw : (w.stale r e).ctx.remaining = b :: bs := h
      have hrow : exec p s = .next (Flow.go (recordPrefix i w.skip)).state := by
        rw [hx, prefixRow, hs, readByte_cons hw _]
        rfl
      obtain ⟨t, ht, hst, hen⟩ := ih (w := recordPrefix i w.skip) (skip_remaining h)
        (s := (Flow.go (recordPrefix i w.skip)).state) ⟨_, _, rfl⟩
      refine ⟨t, ?_, fun _ => ?_, ?_⟩
      · simpa [scanPrefixes, hp, runRows, hrow] using ht
      · by_cases hne : (scanPrefixes bs).1 = []
        · rw [hne] at ht
          cases ht
          rfl
        · exact hst hne
      · simpa [Work.scanned, hb] using hen

/-! After the opcode bytes. -/

theorem finishRow_eq_afterLookup (tg : Nat → Option Desc) (ref : DescRef) (key : Nat) {d : Desc} (hg : d.group = false)
    (w : Work) : finishRow ref key d w = afterLookup tg ref key (some d) w := by
  simp [finishRow, afterLookup, hg]

/-- A DECODE that goes on has this value in REG. -/
def Flow.RegIs (r : Option (BitVec 3)) : Flow → Prop
  | .go w => w.di.reg = r
  | .ended _ => True

theorem readN_regIs {n : Nat} {w : Work} {r : Option (BitVec 3)} {k : Nat → Work → Flow}
    (hk : ∀ v w', w'.di = w.di → (k v w').RegIs r) : (readN n w k).RegIs r := by
  unfold readN advance
  split
  · split
    · exact hk _ _ rfl
    · trivial
  · trivial

theorem readDisp_regIs (n : Nat) (c : SizeClass) (w : Work) : (readDisp n c w).RegIs w.di.reg :=
  readN_regIs fun _ _ h => by simp [Flow.RegIs, Work.setDi, h]

theorem disp32_regIs (mod : BitVec 2) (rm : BitVec 3) (w : Work) : (disp32 mod rm w).RegIs w.di.reg := by
  unfold disp32
  split_ifs
  case neg => rfl
  all_goals exact readDisp_regIs _ _ w

theorem disp16_regIs (mod : BitVec 2) (rm : BitVec 3) (w : Work) : (disp16 mod rm w).RegIs w.di.reg := by
  unfold disp16
  split_ifs
  case neg => rfl
  all_goals exact readDisp_regIs _ _ w

/-- The bytes after a ModR/M byte do not write REG (R178 to R181). -/
theorem addressing_regIs (a : SizeClass) (mod : BitVec 2) (rm : BitVec 3) (w : Work) :
    (addressing a mod rm w).RegIs w.di.reg := by
  unfold addressing
  split
  · split
    · exact readN_regIs fun v w' h => congrArg Di.reg h ▸ disp32_regIs mod rm (setSib (BitVec.ofNat 8 v) w')
    · exact disp32_regIs mod rm w
  · exact disp16_regIs mod rm w
  · trivial

/-- The ModR/M stage leaves the register field of its byte in REG (R176). -/
theorem modRm_regIs (d : Desc) {w : Work} {b : Byte} {bs : List Byte} (h : w.ctx.remaining = b :: bs) :
    (modRm d w).RegIs (some (midField b)) := by
  rw [modRm, readByte_cons h _]
  simp only []
  split
  · rfl
  · exact addressing_regIs _ _ _ (setModRm b w.skip)

theorem modRmStage_groupDesc (w : Work) : modRmStage groupDesc w = modRm groupDesc w := rfl

/-- What follows the lookup of a group-dispatch entry, from the ModR/M byte on (R173, R174). -/
theorem afterLookup_groupDesc (tg : Nat → Option Desc) (ref : DescRef) (key : Nat) (w : Work) :
    afterLookup tg ref key (some groupDesc) w
      = (modRm groupDesc (select ref key groupDesc w)).andThen fun w => (resolveGroup tg key w).andThen fun w =>
          match w.di.opkey.bind tg with
          | some m => operandStage m w
          | none => .go w := rfl

theorem resolveGroup_present {tg : Nat → Option Desc} {key : Nat} {w : Work} {r : BitVec 3} {d : Desc}
    (hr : w.di.reg = some r) (hd : tg (key * 256 + r.toNat) = some d) :
    resolveGroup tg key w = .go (select (.tg (key * 256 + r.toNat)) (key * 256 + r.toNat) d w) := by
  simp [resolveGroup, hr, hd]

theorem resolveGroup_absent {tg : Nat → Option Desc} {key : Nat} {w : Work} {r : BitVec 3}
    (hr : w.di.reg = some r) (hd : tg (key * 256 + r.toNat) = none) :
    resolveGroup tg key w = lookupFailed (key * 256 + r.toNat) .groupLookupFailed w := by
  simp [resolveGroup, hr, hd]

/-- A dispatch entry's row, where its ModR/M byte is missing or its digit has no row, is what follows its lookup (R174, R175). -/
theorem dispatch_eq_afterLookup {tg : Nat → Option Desc} {ref : DescRef} {key : Nat} {w : Work}
    (h : ∀ m bs, w.ctx.remaining = m :: bs → tg (key * 256 + (midField m).toNat) = none) :
    (modRmStage groupDesc (select ref key groupDesc w)).andThen (resolveGroup tg key)
      = afterLookup tg ref key (some groupDesc) w := by
  rw [modRmStage_groupDesc, afterLookup_groupDesc]
  cases hrem : w.ctx.remaining with
  | nil =>
    have hrem : (select ref key groupDesc w).ctx.remaining = [] := hrem
    rw [modRm, readByte_nil hrem]
    rfl
  | cons m bs =>
    have hreg := modRm_regIs groupDesc (w := select ref key groupDesc w) hrem
    cases hf : modRm groupDesc (select ref key groupDesc w) with
    | ended s => rfl
    | go w' =>
      rw [hf] at hreg
      rw [Flow.andThen_go, Flow.andThen_go, resolveGroup_absent hreg (h m bs hrem)]
      rfl

/-- A group member's row is what follows the lookup of its dispatch entry (R174). -/
theorem finishMember_eq_afterLookup {tg : Nat → Option Desc} {ref : DescRef} {key : Nat} {d : Desc} {w : Work} {m : Byte}
    {bs : List Byte} (h : w.ctx.remaining = m :: bs) (hd : tg (key * 256 + (midField m).toNat) = some d) :
    finishMember ref key groupDesc (midField m).toNat d w = afterLookup tg ref key (some groupDesc) w := by
  have hreg := modRm_regIs groupDesc (w := select ref key groupDesc w) h
  rw [finishMember, modRmStage_groupDesc, afterLookup_groupDesc]
  cases hf : modRm groupDesc (select ref key groupDesc w) with
  | ended s => rfl
  | go w' =>
    rw [hf] at hreg
    rw [Flow.andThen_go, Flow.andThen_go, resolveGroup_present hreg hd, Flow.andThen_go, select_opkey, Option.bind_some, hd]

/-! The rows that the decoder selects. -/

/-- Reading the opcode byte of a one-byte row that stands there. -/
theorem oneByteRow_eq {s : State} {b : Byte} {bs : List Byte} (h : (enter s).ctx.remaining = b :: bs) (i : Instr) (d : Desc) :
    oneByteRow i b d s = .next (finishRow (.t1 b) b.toNat d (latchOpcode b (enter s).skip)).state := by
  unfold oneByteRow
  split
  · simp only [oneByteReg, readByte_cons h _, regByte_lowField]
  · rw [oneByte, opcode1, readByte_cons h _]

theorem twoByteRow_eq {s : State} {b : Byte} {bs : List Byte} (h : (enter s).ctx.remaining = 0x0F :: b :: bs) (i : Instr)
    (d : Desc) : twoByteRow i b d s
      = .next (finishRow (.t2 b) (0x0F00 + b.toNat) d (latchOpcode b (latchOpcode 0x0F (enter s).skip).skip)).state := by
  have h2 : (latchOpcode 0x0F (enter s).skip).ctx.remaining = b :: bs := skip_remaining h
  unfold twoByteRow
  split
  · simp only [twoByteReg, readByte_cons h _, readByte_cons h2 _, regByte_lowField]
  · rw [twoByte, opcode2, readByte_cons h _, readByte_cons h2 _]

theorem memberRow_oneByte (b : Byte) (r : BitVec 3) (d : Desc) :
    memberRow (b.toNat * 256 + r.toNat) d = oneByteMember b groupDesc r.toNat d := by
  have hr := r.isLt
  have hb := b.isLt
  rw [memberRow, if_pos (by omega), show (b.toNat * 256 + r.toNat) / 256 = b.toNat by omega,
    show (b.toNat * 256 + r.toNat) % 256 = r.toNat by omega, BitVec.ofNat_toNat, BitVec.setWidth_eq]

theorem memberRow_twoByte (b : Byte) (r : BitVec 3) (d : Desc) :
    memberRow ((0x0F00 + b.toNat) * 256 + r.toNat) d = twoByteMember b groupDesc r.toNat d := by
  have hr := r.isLt
  have hb := b.isLt
  have hkey : BitVec.ofNat 8 (((0x0F00 + b.toNat) * 256 + r.toNat) / 256) = b := by
    apply BitVec.eq_of_toNat_eq
    rw [BitVec.toNat_ofNat]
    omega
  rw [memberRow, if_neg (by omega), hkey, show ((0x0F00 + b.toNat) * 256 + r.toNat) % 256 = r.toNat by omega]

/-- A row of REF's group map (R174). -/
theorem exec_of_rowAt_refTG {key : Nat} {d : Desc} (h : rowAt refTG key = some d) :
    ∃ j, tgRow key = some j ∧ exec j = memberRow key d := by
  have hmap := refTG_agrees _ (mem_of_rowAt h)
  simpa [Option.map_eq_some_iff] using hmap

/-- Where an entry of the decoder's map and a descriptor of REF agree, the row that the entry selects is what follows the lookup of that
descriptor. The hypotheses say what the three forms of a row do once its opcode bytes are read. -/
theorem runSelected_selectEntry {s : State} {w : Work} {ref : DescRef} {key : Nat} {d : Desc} {row : Instr → State → Result}
    {dispatch : State → Result} {e : Entry} (hagrees : EntryAgrees key d row dispatch e)
    (hrow : ∀ i, row i s = .next (finishRow ref key d w).state)
    (hdispatch : dispatch s
      = .next ((modRmStage groupDesc (select ref key groupDesc w)).andThen (resolveGroup (rowAt refTG) key)).state)
    (hmember : ∀ (r : BitVec 3) d', memberRow (key * 256 + r.toNat) d' s = .next (finishMember ref key groupDesc r.toNat d' w).state)
    (habsent : d.group = true → ∀ r : BitVec 3,
      (tgRow (key * 256 + r.toNat)).isNone = (rowAt refTG (key * 256 + r.toNat)).isNone)
    (via : List Instr) (b : Byte) (absent : Selected) :
    runSelected (selectEntry via b w.ctx.remaining absent e) s
      = .next (afterLookup (rowAt refTG) ref key (some d) w).state := by
  cases e with
  | null => exact hagrees.elim
  | row i =>
    obtain ⟨hg, hx⟩ := hagrees
    rw [selectEntry, runSelected, hx, hrow, finishRow_eq_afterLookup _ _ _ hg]
  | group k i =>
    obtain ⟨⟨rfl, rfl⟩, hx⟩ := hagrees
    cases hrem : w.ctx.remaining with
    | nil =>
      rw [selectEntry, runSelected, hx, hdispatch, dispatch_eq_afterLookup (by simp [hrem])]
    | cons m bs =>
      cases hd : rowAt refTG (k * 256 + (midField m).toNat) with
      | none =>
        have hnone : tgRow (k * 256 + (midField m).toNat) = none := by
          simpa [hd] using habsent rfl (midField m)
        have hdig : ∀ m' bs', w.ctx.remaining = m' :: bs' → rowAt refTG (k * 256 + (midField m').toNat) = none := by
          intro m' bs' h
          obtain ⟨rfl, -⟩ := List.cons.inj (h.symm.trans hrem)
          exact hd
        simp only [selectEntry, hnone]
        rw [runSelected, hx, hdispatch, dispatch_eq_afterLookup hdig]
      | some d' =>
        obtain ⟨j, hj, hxj⟩ := exec_of_rowAt_refTG hd
        simp only [selectEntry, hj]
        rw [runSelected, hxj, hmember, finishMember_eq_afterLookup hrem hd]

/-- The one-byte map (R170, R171). -/
theorem runSelected_t1 {s : State} {b : Byte} {bs : List Byte} (h : (enter s).ctx.remaining = b :: bs) :
    runSelected (selectEntry [] b bs (.unknownOpcode b bs) (t1Entry b.toNat)) s
      = .next (afterLookup (rowAt refTG) (.t1 b) b.toNat (rowAt refT1 b.toNat) (latchOpcode b (enter s).skip)).state := by
  cases hd : rowAt refT1 b.toNat with
  | none =>
    rw [t1Entry_eq_null b hd, selectEntry, runSelected, nullOpcode, readByte_cons h _]
    rfl
  | some d =>
    have hmem := mem_of_rowAt hd
    have hagrees := refT1_agrees _ hmem
    simp only [BitVec.ofNat_toNat, BitVec.setWidth_eq] at hagrees
    have hbs : (latchOpcode b (enter s).skip).ctx.remaining = bs := skip_remaining h
    rw [← hbs]
    refine runSelected_selectEntry hagrees (fun i => oneByteRow_eq h i d) ?_ (fun r d' => ?_) (tgRow_isNone_t1 _ hmem) _ _ _
    · rw [oneByteDispatch, opcode1, readByte_cons h _]
    · rw [memberRow_oneByte, oneByteMember, opcode1, readByte_cons h _]

/-- The two-byte map (R169 to R171). -/
theorem runSelected_t2 {s : State} {b : Byte} {bs : List Byte} (h : (enter s).ctx.remaining = 0x0F :: b :: bs) :
    runSelected (selectEntry [.escape0F] b bs (.row [] .escape0F 0x0F (b :: bs)) (t2Entry b.toNat)) s
      = .next (afterLookup (rowAt refTG) (.t2 b) (0x0F00 + b.toNat) (rowAt refT2 b.toNat)
          (latchOpcode b (latchOpcode 0x0F (enter s).skip).skip)).state := by
  have h2 : (latchOpcode 0x0F (enter s).skip).ctx.remaining = b :: bs := skip_remaining h
  cases hd : rowAt refT2 b.toNat with
  | none =>
    rw [t2Entry_eq_null b hd, selectEntry, runSelected,
      exec_escape0F, escapeRow, readByte_cons h _, readByte_cons h2 _]
    simp only [hd]
    rfl
  | some d =>
    have hmem := mem_of_rowAt hd
    have hagrees := refT2_agrees _ hmem
    simp only [BitVec.ofNat_toNat, BitVec.setWidth_eq] at hagrees
    have hbs : (latchOpcode b (latchOpcode 0x0F (enter s).skip).skip).ctx.remaining = bs := skip_remaining h2
    rw [← hbs]
    refine runSelected_selectEntry hagrees (fun i => twoByteRow_eq h i d) ?_ (fun r d' => ?_) (tgRow_isNone_t2 _ hmem) _ _ _
    · rw [twoByteDispatch, opcode2, readByte_cons h _, readByte_cons h2 _]
    · rw [memberRow_twoByte, twoByteMember, opcode2, readByte_cons h _, readByte_cons h2 _]

/-- Running what the decoder selects at an opcode byte is ResolveOpcode() and what follows it (R167 to R175). -/
theorem runSelected_selectRow {s : State} {c : SizeCtx} (hc : c.opszSeen = (enter s).di.opszSeen)
    (h : (enter s).ctx.remaining ≠ []) :
    runSelected (selectRow c (enter s).ctx.remaining) s = .next (resolveOpcode refTables (enter s)).state := by
  cases hrem : (enter s).ctx.remaining with
  | nil => exact absurd hrem h
  | cons b bs =>
    have hseen : c.opszSeen = (latchOpcode b (enter s).skip).di.opszSeen := hc
    rw [resolveOpcode, readByte_cons hrem _]
    simp only [selectRow, hseen]
    by_cases h90 : b = 0x90 ∧ (latchOpcode b (enter s).skip).di.opszSeen = true
    · rw [if_pos h90, if_pos h90]
      obtain ⟨rfl, -⟩ := h90
      rw [runSelected, exec_xchg66_90, hardCoded, opcode1, readByte_cons hrem _]
      rfl
    rw [if_neg h90, if_neg h90]
    by_cases h0F : b = 0x0F
    · rw [if_pos h0F, if_pos h0F]
      subst h0F
      cases bs with
      | nil =>
        have h2 : (latchOpcode 0x0F (enter s).skip).ctx.remaining = [] := skip_remaining hrem
        simp only []
        rw [runSelected, exec_escape0F, escapeRow, readByte_cons hrem _, readByte_nil h2, readByte_nil h2]
      | cons b2 bs =>
        have h2 : (latchOpcode 0x0F (enter s).skip).ctx.remaining = b2 :: bs := skip_remaining hrem
        rw [readByte_cons h2 _]
        exact runSelected_t2 hrem
    · rw [if_neg h0F, if_neg h0F]
      exact runSelected_t1 hrem

/-- The Work that the pipeline starts with (R162, R163). -/
def State.begin (s : State) : Work := ⟨{ s with start := some s.pos }, Di.fresh⟩

/-- The first row starts where the pipeline does. -/
theorem enter_idle_stale (s : State) : enter s.idle = s.begin.stale s.idle.di s.idle.status := by
  unfold State.idle
  split
  · rename_i h
    rw [enter_idle (.inr rfl)]
    rfl
  · rename_i e h
    rw [enter_idle (.inl (by rw [h]; rfl))]
    rfl

/-- Rows of prefixes that leave the DECODE in progress are followed by the row that was selected. -/
theorem runDecoded_goes_on {d : Decoded} {s t : State} (hrun : runRows d.prefixes s = .next t)
    (hgoes : d.prefixes ≠ [] → t.status = none) : runDecoded d s = runSelected d.selected t := by
  have hnot : ¬(d.prefixes ≠ [] ∧ t.status.isSome = true) := fun h => by simp [hgoes h.1] at h
  simp only [runDecoded, hrun, if_neg hnot]

/-- Over REF, DECODE is the pipeline of R161 to R198: the rows of the prefixes end where PrefixScan() does, and the row that is selected
then does what the stages after it do. -/
theorem decodeOp_ref {s : State} (h : s.tables = .ref) : decodeOp s = .next (pipeline refTables s) := by
  obtain ⟨t, hrun, hgoes, r, e, henter⟩ := runRows_scanned (bs := s.remaining) (w := s.begin) rfl ⟨_, _, enter_idle_stale s⟩
  have hrows : decodeOp s = runSelected s.decoded.selected t := by
    rw [← runDecoded_goes_on (d := s.decoded) hrun hgoes, decodeOp, h]
  have hselected : s.decoded.selected
      = selectRow (sizesUnder s.defOpsize s.defAdsize (scanPrefixes s.remaining).1) (enter t).ctx.remaining := by
    rw [henter]
    exact congrArg (selectRow _) (scanned_remaining (w := s.begin) rfl).symm
  have hseen : (sizesUnder s.defOpsize s.defAdsize (scanPrefixes s.remaining).1).opszSeen = (enter t).di.opszSeen := by
    rw [henter]
    exact (scanned_opszSeen s.remaining s.begin).symm
  have hpipe : pipeline refTables s = ((prefixScan (s.srcLen - s.pos + 1) s.begin).andThen (resolveOpcode refTables)).state := rfl
  rw [hrows, hselected, hpipe,
    prefixScan_eq (bs := s.remaining) rfl (by rw [State.remaining, Memory.bytes_length]; omega)]
  by_cases hend : (enter t).ctx.remaining = []
  · have hend' : (s.begin.scanned s.remaining).ctx.remaining = [] := by rw [henter] at hend; exact hend
    rw [if_pos hend', hend, selectRow, runSelected, noOpcode, readByte_nil hend, henter, (raise_blind _).state]
    rfl
  · have hgo : (s.begin.scanned s.remaining).ctx.remaining ≠ [] := by rw [henter] at hend; exact hend
    rw [if_neg hgo, runSelected_selectRow hseen hend, henter, (resolveOpcode_blind refTables).state]
    rfl

/-- DECODE is the pipeline over the tables that RESET fixed, REF or the host's own. -/
theorem decodeOp_eq_pipeline (s : State) : decodeOp s = .next (pipeline s.tables.tables s) := by
  cases h : s.tables with
  | ref => exact decodeOp_ref h
  | custom t => simp only [decodeOp, h, OpTable.tables]

end Sys2Proof.Machine

/-! SUPPORT. What a whole DECODE does to POS, START and STATUS, over any tables, and what the other host operations leave alone. -/

namespace Sys2Proof.Machine

open Sys2Proof.Claims

/-- From one point of a DECODE to a later state: all that DECODE does not write and START are the same, and POS is not behind and has not
passed L. -/
structure State.Onward (s t : State) : Prop where
  outside : SameOutside s t
  start : t.start = s.start
  forward : s.pos ≤ t.pos
  inside : s.pos ≤ s.srcLen → t.pos ≤ s.srcLen

theorem State.Onward.refl (s : State) : s.Onward s := ⟨SameOutside.refl s, rfl, Nat.le_refl _, id⟩

theorem State.Onward.trans {s t u : State} (h : s.Onward t) (h' : t.Onward u) : s.Onward u where
  outside := SameOutside.trans h.outside h'.outside
  start := h'.start.trans h.start
  forward := Nat.le_trans h.forward h'.forward
  inside hp := h.outside.srcLen ▸ h'.inside (h.outside.srcLen ▸ h.inside hp)

/-- A stage goes on from a later point, or ends there with a STATUS. -/
def Flow.Onward (s : State) : Flow → Prop
  | .go w => s.Onward w.ctx
  | .ended t => s.Onward t ∧ t.status.isSome = true

/-- The DECODE ends there. -/
def Flow.Ends (s : State) (f : Flow) : Prop := s.Onward f.state ∧ f.state.status.isSome = true

theorem Flow.Onward.from {s t : State} {f : Flow} (h : s.Onward t) (hf : f.Onward t) : f.Onward s := by
  cases f with
  | go w => exact State.Onward.trans h hf
  | ended u => exact ⟨h.trans hf.1, hf.2⟩

theorem Flow.Ends.from {s t : State} {f : Flow} (h : s.Onward t) (hf : f.Ends t) : f.Ends s := ⟨h.trans hf.1, hf.2⟩

theorem Flow.Onward.ends {s : State} {f : Flow} {k : Work → Flow} (hf : f.Onward s) (hk : ∀ w, (k w).Ends w.ctx) :
    (f.andThen k).Ends s := by
  cases f with
  | go w => exact (hk w).from hf
  | ended t => exact hf

theorem raise_ends (e : Status) (w : Work) : (raise e w).Ends w.ctx :=
  ⟨⟨by constructor <;> rfl, rfl, Nat.le_refl _, id⟩, rfl⟩

theorem complete_ends (w : Work) : (complete w).Ends w.ctx :=
  ⟨⟨by constructor <;> rfl, rfl, Nat.le_refl _, id⟩, rfl⟩

/-- A stage within a frame. -/
theorem Flow.Frame.onward {n : Nat} {w : Work} {f : Flow} (h : Flow.Frame n w f) : f.Onward w.ctx := by
  have hw {w' : Work} (h : Work.Frame n w w') : w.ctx.Onward w'.ctx := ⟨h.outside, h.start, h.forward, h.inside⟩
  cases f with
  | go w' => exact hw h
  | ended s =>
    obtain ⟨w', hframe, ⟨e, he⟩ | hc⟩ := h
    · cases he
      exact (raise_ends e w').from (hw hframe)
    · cases hc
      exact (complete_ends w').from (hw hframe)

theorem skip_onward {w : Work} (h : w.ctx.pos < w.ctx.srcLen) : w.ctx.Onward w.skip.ctx :=
  ⟨by constructor <;> rfl, rfl, Nat.le_succ _, fun _ => h⟩

theorem readByte_of_lt {w : Work} (h : w.ctx.pos < w.ctx.srcLen) (k : Byte → Work → Flow) :
    readByte w k = k (w.ctx.src.read w.ctx.pos) w.skip := readByte_supplied h k

theorem readByte_of_le {w : Work} (h : w.ctx.srcLen ≤ w.ctx.pos) (k : Byte → Work → Flow) :
    readByte w k = raise .endOfStream w := readByte_nil (remaining_eq_nil.mpr h) k

theorem readByte_ends_skip {w : Work} (h : w.ctx.pos < w.ctx.srcLen) {k : Byte → Work → Flow}
    (hk : ∀ b w, (k b w).Ends w.ctx) : (readByte w k).Ends w.skip.ctx := by
  rw [readByte_of_lt h]
  exact hk _ w.skip

theorem readByte_ends {w : Work} {k : Byte → Work → Flow} (hk : ∀ b w, (k b w).Ends w.ctx) : (readByte w k).Ends w.ctx := by
  by_cases h : w.ctx.pos < w.ctx.srcLen
  · exact (readByte_ends_skip h hk).from (skip_onward h)
  · rw [readByte_of_le (Nat.not_lt.mp h)]
    exact raise_ends _ w

theorem lookupFailed_ends (key : Nat) (e : Status) (w : Work) : (lookupFailed key e w).Ends w.ctx :=
  raise_ends e (w.setDi { w.di with opkey := some key, desc := some .null })

/-- The operand stage ends the DECODE (R182, R197). -/
theorem operandStage_ends (d : Desc) (w : Work) : (operandStage d w).Ends w.ctx :=
  (extractTags_frame d d.tags w).onward.ends complete_ends

theorem finishRow_ends (ref : DescRef) (key : Nat) (d : Desc) (w : Work) : (finishRow ref key d w).Ends w.ctx :=
  (modRmStage_frame d (select ref key d w)).onward.ends (operandStage_ends d)

/-- The group digit's row, present or absent (R174, R175). -/
theorem resolveGroup_ends (tg : Nat → Option Desc) (key : Nat) (w : Work) :
    ((resolveGroup tg key w).andThen fun w =>
      match w.di.opkey.bind tg with
      | some m => operandStage m w
      | none => .go w).Ends w.ctx := by
  cases hr : w.di.reg with
  | none =>
    have hfails : resolveGroup tg key w = lookupFailed (key * 256) .groupLookupFailed w := by simp only [resolveGroup, hr]
    rw [hfails]
    exact lookupFailed_ends _ _ w
  | some r =>
    cases hd : tg (key * 256 + r.toNat) with
    | none =>
      rw [resolveGroup_absent hr hd]
      exact lookupFailed_ends _ _ w
    | some d =>
      rw [resolveGroup_present hr hd, Flow.andThen_go, select_opkey, Option.bind_some, hd]
      exact operandStage_ends d (select _ _ d w)

theorem afterLookup_ends (tg : Nat → Option Desc) (ref : DescRef) (key : Nat) (found : Option Desc) (w : Work) :
    (afterLookup tg ref key found w).Ends w.ctx := by
  cases found with
  | none => exact lookupFailed_ends _ _ w
  | some d =>
    refine (modRmStage_frame d (select ref key d w)).onward.ends fun w' => ?_
    split
    · exact resolveGroup_ends tg key w'
    · exact operandStage_ends d w'

/-- ResolveOpcode() and what follows it consume the opcode byte where there is one, and end the DECODE. -/
theorem resolveOpcode_ends_skip (t : Tables) {w : Work} (h : w.ctx.pos < w.ctx.srcLen) :
    (resolveOpcode t w).Ends w.skip.ctx := by
  refine readByte_ends_skip h fun b w => ?_
  simp only []
  split
  · exact finishRow_ends _ _ _ (latchOpcode b w)
  split
  · exact readByte_ends (w := latchOpcode b w) fun b2 w => afterLookup_ends _ _ _ _ (latchOpcode b2 w)
  · exact afterLookup_ends _ _ _ _ (latchOpcode b w)

theorem resolveOpcode_ends (t : Tables) (w : Work) : (resolveOpcode t w).Ends w.ctx := by
  by_cases h : w.ctx.pos < w.ctx.srcLen
  · exact (resolveOpcode_ends_skip t h).from (skip_onward h)
  · rw [resolveOpcode, readByte_of_le (Nat.not_lt.mp h)]
    exact raise_ends _ w

theorem prefixScan_onward (fuel : Nat) (w : Work) : (prefixScan fuel w).Onward w.ctx := by
  induction fuel generalizing w with
  | zero => exact State.Onward.refl _
  | succ fuel ih =>
    rw [prefixScan]
    by_cases h : w.ctx.pos < w.ctx.srcLen
    · rw [readByte_of_lt h]
      cases prefixBit (w.ctx.src.read w.ctx.pos) with
      | some i => exact (ih (recordPrefix i w.skip)).from (skip_onward h)
      | none => exact State.Onward.refl _
    · rw [readByte_of_le (Nat.not_lt.mp h)]
      exact raise_ends _ w

theorem pipeline_ends (t : Tables) (s : State) : s.begin.ctx.Onward (pipeline t s) ∧ (pipeline t s).status.isSome = true :=
  (prefixScan_onward _ s.begin).ends (resolveOpcode_ends t)

/-- A DECODE at a START below L consumes a byte: the first read succeeds. -/
theorem pipeline_consumes (t : Tables) {s : State} (h : s.pos < s.srcLen) : s.pos < (pipeline t s).pos := by
  have hskip : s.begin.skip.ctx.Onward (pipeline t s) := by
    have hb : s.begin.ctx.pos < s.begin.ctx.srcLen := h
    have hpipe : pipeline t s = ((prefixScan (s.srcLen - s.pos + 1) s.begin).andThen (resolveOpcode t)).state := rfl
    rw [hpipe, prefixScan, readByte_of_lt hb]
    cases prefixBit (s.begin.ctx.src.read s.begin.ctx.pos) with
    | some i => exact ((prefixScan_onward _ (recordPrefix i s.begin.skip)).ends (resolveOpcode_ends t)).1
    | none => exact (resolveOpcode_ends_skip t hb).1
  exact hskip.forward

/-- How any DECODE ends, over any tables: it has a STATUS, START is where it began, and POS has moved past a byte wherever there was
one. -/
structure DecodeEnd (s t : State) : Prop where
  outside : SameOutside s t
  start : t.start = some s.pos
  forward : s.pos ≤ t.pos
  inside : s.pos ≤ s.srcLen → t.pos ≤ s.srcLen
  consumes : s.pos < s.srcLen → s.pos < t.pos
  status : t.status.isSome = true

theorem decodeOp_end {s t : State} (h : decodeOp s = .next t) : DecodeEnd s t := by
  rw [decodeOp_eq_pipeline] at h
  obtain rfl := Host.Outcome.next.inj h
  obtain ⟨hon, hstatus⟩ := pipeline_ends s.tables.tables s
  have hbegin : SameOutside s s.begin.ctx := by constructor <;> rfl
  exact ⟨SameOutside.trans hbegin hon.outside, hon.start, hon.forward, hon.inside, pipeline_consumes _, hstatus⟩

/-! How a run ended (00_scope.md R10; 40_decode_pipeline.md R206). -/

section
variable {s t : State}

theorem DecodeEnd.cleanEnd_iff (h : DecodeEnd s t) : t.cleanEnd = true ↔ t.status = some .endOfStream ∧ s.pos = s.srcLen := by
  simp [State.cleanEnd, h.start, h.outside.srcLen]

theorem DecodeEnd.truncated_iff (h : DecodeEnd s t) : t.truncated = true ↔ t.status = some .endOfStream ∧ s.pos < s.srcLen := by
  simp [State.truncated, h.start, h.outside.srcLen]

theorem DecodeEnd.endedInError_iff (h : DecodeEnd s t) :
    t.endedInError = true ↔ t.status ≠ some .ok ∧ t.cleanEnd = false := by
  obtain ⟨e, he⟩ := Option.isSome_iff_exists.mp h.status
  simp [State.endedInError, he]

/-- POS has left START exactly where START was below L. -/
theorem DecodeEnd.pos_gt_iff (h : DecodeEnd s t) (hpos : s.pos ≤ s.srcLen) : s.pos < t.pos ↔ s.pos < s.srcLen :=
  ⟨fun hlt => Nat.lt_of_lt_of_le hlt (h.inside hpos), h.consumes⟩

end

/-! The operations that are not DECODE. -/

theorem setDOp_setStatus (v : Nat) (s : State) : (setDOp v s).setStatus = if v ≤ 1 then some .ok else none := by
  unfold setDOp
  split <;> rfl

theorem setPeOp_setStatus (v : Nat) (s : State) : (setPeOp v s).setStatus = if v ≤ 1 then some .ok else none := by
  unfold setPeOp
  split <;> rfl

theorem setPosOp_setStatus (p : Nat) (s : State) : (setPosOp p s).setStatus = if p ≤ s.srcLen then some .ok else none := by
  unfold setPosOp
  split <;> rfl

/-- The state keeps what the end of a run is read from: STATUS, START and L, and the fault mark too unless STATUS is OK. -/
structure KeepsRunEnd (s t : State) : Prop where
  status : t.status = s.status
  start : t.start = s.start
  srcLen : t.srcLen = s.srcLen
  faultMark : s.status = some .ok ∨ t.faultMark = s.faultMark

theorem setDOp_keepsRunEnd (v : Nat) (s : State) : KeepsRunEnd s (setDOp v s) := by
  unfold setDOp
  split
  · split <;> exact ⟨rfl, rfl, rfl, .inr rfl⟩
  · exact ⟨rfl, rfl, rfl, .inr rfl⟩

theorem setPeOp_keepsRunEnd (v : Nat) (s : State) : KeepsRunEnd s (setPeOp v s) := by
  unfold setPeOp
  split
  · split <;> exact ⟨rfl, rfl, rfl, .inr rfl⟩
  · exact ⟨rfl, rfl, rfl, .inr rfl⟩

theorem setPosOp_keepsRunEnd (p : Nat) (s : State) : KeepsRunEnd s (setPosOp p s) := by
  unfold setPosOp
  split <;> exact ⟨rfl, rfl, rfl, .inr rfl⟩

theorem sourceByteOp_keepsRunEnd (a : Nat) (b : Byte) (s : State) : KeepsRunEnd s (sourceByteOp a b s) := by
  unfold sourceByteOp
  split <;> exact ⟨rfl, rfl, rfl, .inr rfl⟩

theorem sourceByteOp_setStatus (a : Nat) (b : Byte) (s : State) : (sourceByteOp a b s).setStatus = s.setStatus := by
  unfold sourceByteOp
  split <;> rfl

/-- FORMAT writes its reply and the marks, and the fault mark only after a success (49_formatter.md R501). -/
theorem formatOp_cases {s t : State} (h : formatOp s = .next t) :
    t = { s with reply := t.reply, refusalMark := t.refusalMark, faultMark := t.faultMark }
      ∧ (s.status = some .ok ∨ t.faultMark = s.faultMark) := by
  unfold formatOp at h
  split at h
  · rename_i hallowed
    have hok : s.status = some .ok := by simpa using (Bool.and_eq_true_iff.mp hallowed).1
    split at h <;> cases h
    · exact ⟨rfl, .inl hok⟩
    · exact ⟨rfl, .inl hok⟩
  · cases h
    exact ⟨rfl, .inr rfl⟩

theorem formatOp_keepsRunEnd {s t : State} (h : formatOp s = .next t) : KeepsRunEnd s t := by
  obtain ⟨ht, hmark⟩ := formatOp_cases h
  exact ⟨by rw [ht], by rw [ht], by rw [ht], hmark⟩

theorem runRequest_keepsRunEnd {r : Request} {s t : State} (hr : r ≠ .decode) (h : runRequest r s = .next t) :
    KeepsRunEnd s t := by
  cases r with
  | decode => exact absurd rfl hr
  | setD v => cases h; exact setDOp_keepsRunEnd v s
  | setPe v => cases h; exact setPeOp_keepsRunEnd v s
  | setPos p => cases h; exact setPosOp_keepsRunEnd p s
  | format => exact formatOp_keepsRunEnd h
  | sourceByte a b => cases h; exact sourceByteOp_keepsRunEnd a b s

section
variable {s t : State}

theorem KeepsRunEnd.cleanEnd (h : KeepsRunEnd s t) : t.cleanEnd = s.cleanEnd := by
  simp only [State.cleanEnd, h.status, h.start, h.srcLen]

theorem KeepsRunEnd.truncated (h : KeepsRunEnd s t) : t.truncated = s.truncated := by
  simp only [State.truncated, h.status, h.start, h.srcLen]

theorem KeepsRunEnd.endedInError (h : KeepsRunEnd s t) : t.endedInError = s.endedInError := by
  simp only [State.endedInError, h.status, h.cleanEnd]

theorem KeepsRunEnd.final (h : KeepsRunEnd s t) : t.final = s.final := by
  rcases h.faultMark with hok | hmark
  · simp [State.final, h.status, hok]
  · simp only [State.final, h.status, hmark]

end

/-! The statements of 00_scope.md. -/

/-- Settles O57: each setter writes OK or nothing into its slot, on either side of its range, and DECODE, FORMAT and the source's owner
leave the slot. -/
theorem setterReturns : Obligations.SetterReturns := by
  refine ⟨?_, ?_, ?_, ?_⟩
  · intro v s t h
    cases h
    exact setDOp_setStatus v s
  · intro v s t h
    cases h
    exact setPeOp_setStatus v s
  · intro p s t h
    cases h
    exact setPosOp_setStatus p s
  · intro r s t hD hPe hPos h
    cases r with
    | decode => exact (decodeOp_end h).outside.setStatus
    | setD v => exact absurd rfl (hD v)
    | setPe v => exact absurd rfl (hPe v)
    | setPos p => exact absurd rfl (hPos p)
    | format => rw [(formatOp_cases h).1]
    | sourceByte a b => cases h; exact sourceByteOp_setStatus a b s

/-- Settles O56: a DECODE leaves START where it began and consumes a byte exactly where there is one, so that POS = START and START = L
say the same; and no other operation writes what the end of a run is read from. -/
theorem runEnd : Obligations.RunEnd := by
  refine ⟨?_, ?_, ?_⟩
  · intro s t hinv h hstatus
    have hend := decodeOp_end h
    have hpos := hend.pos_gt_iff hinv.pos
    have hle := hinv.pos
    have hforward := hend.forward
    have hclean : t.cleanEnd = true ↔ s.pos = s.srcLen := by simp [hend.cleanEnd_iff, hstatus]
    have htrunc : t.truncated = true ↔ s.pos < s.srcLen := by simp [hend.truncated_iff, hstatus]
    have hnot : t.truncated = !t.cleanEnd := by
      rw [Bool.eq_iff_iff, htrunc, Bool.not_eq_true', ← Bool.not_eq_true, hclean]
      omega
    have herror : t.endedInError = true ↔ t.cleanEnd = false := by simp [hend.endedInError_iff, hstatus]
    refine ⟨?_, ?_, hnot, ?_⟩
    · rw [hclean, hend.start, hend.outside.srcLen, Option.some.injEq, Option.some.injEq]
      omega
    · rw [htrunc, hend.start, ← hpos]
      simp
    · rw [hnot, Bool.eq_iff_iff, herror, Bool.not_eq_true']
  · intro s t _ h hstatus
    have hend := decodeOp_end h
    have hclean : t.cleanEnd = false := by simp [← Bool.not_eq_true, hend.cleanEnd_iff, hstatus]
    have htrunc : t.truncated = false := by simp [← Bool.not_eq_true, hend.truncated_iff, hstatus]
    exact ⟨hclean, htrunc, by simp [hend.endedInError_iff, hclean]⟩
  · intro r s t hr h
    have hkeeps := runRequest_keepsRunEnd hr h
    exact ⟨hkeeps.cleanEnd, hkeeps.truncated, hkeeps.endedInError, hkeeps.final⟩

end Sys2Proof.Machine

/-! SUPPORT. The well-formedness conditions of R130 that the proofs about single descriptors use, taken apart once, and the sizes that
they bound. -/

namespace Sys2Proof.Machine

open Sys2Proof.Claims

/-- What W1, W2, W4, W5, W9 and W10 say of a descriptor (30_encoding.md R130). -/
structure Desc.Laws (d : Desc) : Prop where
  group : d.group = true → d.modRm = true
  immediates : (d.operands.filter Tag.immediate).length ≤ 1
  reads : ∀ t ∈ d.operands, t.readsReg = true ∨ t.readsRm = true → d.modRm = true
  fixedOp : d.opszFixed = true → d.fixedOp ∈ [SizeClass.byte, .word, .long, .quad]
  fixedAd : d.adszFixed = true → d.fixedAd ∈ [SizeClass.word, .long]
  quad : d.fixedOp = .quad → .iv ∉ d.operands
  suffix : d.suffix = true → d.modRm = true

theorem Desc.laws_of_wf {d : Desc} (h : d.wf = true) : d.Laws := by
  simp only [Desc.wf, Bool.and_eq_true] at h
  obtain ⟨⟨⟨⟨⟨⟨⟨⟨⟨⟨hgroup, himm⟩, -⟩, hreads⟩, hop⟩, had⟩, -⟩, -⟩, hquad⟩, hsuffix⟩, -⟩ := h
  constructor
  · simpa [Bool.or_eq_true, or_iff_not_imp_left] using hgroup
  · simpa using himm
  · intro t ht hr
    have hany : (d.operands.any fun t => t.readsReg || t.readsRm) = true :=
      List.any_eq_true.mpr ⟨t, ht, by simpa using hr⟩
    simpa [hany] using hreads
  · intro hf
    simpa [hf] using hop
  · intro hf
    simpa [hf] using had
  · intro hq
    simpa [hq] using hquad
  · intro hs
    simpa [hs] using hsuffix

/-- Every descriptor that DESC can name is well-formed where the tables are; XCHG66 is built in (R128). -/
theorem DescRef.resolve_wf {t : Tables} (ht : t.wf = true) {ref : DescRef} {d : Desc}
    (h : ref.resolve t Ref.xchg66_90 = some d) : d.wf = true := by
  simp only [Tables.wf, Bool.and_eq_true, List.all_eq_true] at ht
  obtain ⟨⟨⟨-, h1⟩, h2⟩, hg⟩ := ht
  cases ref with
  | null => cases h
  | t1 b => exact (h1 (b.toNat, d) (mem_of_rowAt h)).1
  | t2 b => exact h2 (b.toNat, d) (mem_of_rowAt h)
  | tg k => exact (hg (k, d) (mem_of_rowAt h)).1
  | xchg66 => cases h; rfl

/-- The extractor reads the operands: it stops at the first NONE (R126, R182). -/
theorem extractTags_operands (d : Desc) (w : Work) : extractTags d d.tags w = extractTags d d.operands w := by
  have hstop (ts : List Tag) (w : Work) : extractTags d ts w = extractTags d (ts.takeWhile (· != .none)) w := by
    induction ts generalizing w with
    | nil => rfl
    | cons t ts ih =>
      cases t
      case none => rfl
      all_goals exact congrArg ((extractTag d _ w).andThen) (funext ih)
  exact hstop d.tags w

theorem Desc.ne_none_of_mem_operands {d : Desc} {t : Tag} (h : t ∈ d.operands) : t ≠ .none := by
  simpa using List.mem_takeWhile_imp h

/-- The defaults are word or long, and stay so under INV (10_state.md R51, 40_decode_pipeline.md R195). -/
theorem sizeInv_legal {c : SizeClass} (h : c = .word ∨ c = .long) : sizeInv c = .word ∨ sizeInv c = .long := by
  rcases h with rfl | rfl <;> simp [sizeInv]

/-- The point of a DECODE at which a well-formed descriptor's SZOVR is loaded over legal defaults, so that its sizes have a width. -/
structure Work.Sized (d : Desc) (w : Work) : Prop where
  wf : d.wf = true
  sizes : SizesLegal w.ctx
  szovr : w.di.szovr = d.szovr

/-- adsize() is word or long (R194). -/
theorem Work.Sized.adsize_legal {d : Desc} {w : Work} (h : w.Sized d) : adsize d w = .word ∨ adsize d w = .long := by
  have hfixed := (Desc.laws_of_wf h.wf).fixedAd
  unfold adsize
  split
  · rename_i hf
    simpa [h.szovr, Desc.szovr, hf.1] using hfixed hf.1
  split
  · exact sizeInv_legal h.sizes.2
  · exact h.sizes.2

/-- opsize() is byte, word or long wherever an IV reads it (R193, W9). -/
theorem Work.Sized.opsize_legal {d : Desc} {w : Work} (h : w.Sized d) (hiv : .iv ∈ d.operands) :
    opsize d w = .byte ∨ opsize d w = .word ∨ opsize d w = .long := by
  have hlaws := Desc.laws_of_wf h.wf
  unfold opsize
  split
  · rename_i hf
    have hq : d.fixedOp ≠ .quad := fun hq => hlaws.quad hq hiv
    simpa [h.szovr, Desc.szovr, hf.1, hq] using hlaws.fixedOp hf.1
  split
  · exact .inr (sizeInv_legal h.sizes.1)
  · exact .inr h.sizes.1

theorem Work.Sized.adsize_width {d : Desc} {w : Work} (h : w.Sized d) :
    readWidth (adsize d w) = 1 ∨ readWidth (adsize d w) = 2 ∨ readWidth (adsize d w) = 4 := by
  rcases h.adsize_legal with h | h <;> simp [h, readWidth, sizeBytes]

theorem Work.Sized.opsize_width {d : Desc} {w : Work} (h : w.Sized d) (hiv : .iv ∈ d.operands) :
    readWidth (opsize d w) = 1 ∨ readWidth (opsize d w) = 2 ∨ readWidth (opsize d w) = 4 := by
  rcases h.opsize_legal hiv with h | h | h <;> simp [h, readWidth, sizeBytes]

end Sys2Proof.Machine

/-! SUPPORT. What the ModR/M and operand stages of DECODE do to the record, and with which errors they can end. -/

namespace Sys2Proof.Machine

open Sys2Proof.Claims

/-- From one point of a DECODE to a later one under the same descriptor: the defaults, SZOVR, DESC and OPB are the same, the record's
fields still agree with each other, and no field that held a value has lost it. -/
structure Work.Grows (w w' : Work) : Prop where
  defOpsize : w'.ctx.defOpsize = w.ctx.defOpsize
  defAdsize : w'.ctx.defAdsize = w.ctx.defAdsize
  szovr : w'.di.szovr = w.di.szovr
  desc : w'.di.desc = w.di.desc
  opb : w'.di.opb = w.di.opb
  legal : w.di.Legal → w'.di.Legal
  mod : w.di.mod.isSome = true → w'.di.mod.isSome = true
  reg : w.di.reg.isSome = true → w'.di.reg.isSome = true
  rm : w.di.rm.isSome = true → w'.di.rm.isSome = true
  imm : w.di.imm.isSome = true → w'.di.imm.isSome = true

theorem Work.Grows.refl (w : Work) : w.Grows w := ⟨rfl, rfl, rfl, rfl, rfl, id, id, id, id, id⟩

theorem Work.Grows.trans {w w' w'' : Work} (h : w.Grows w') (h' : w'.Grows w'') : w.Grows w'' where
  defOpsize := h'.defOpsize.trans h.defOpsize
  defAdsize := h'.defAdsize.trans h.defAdsize
  szovr := h'.szovr.trans h.szovr
  desc := h'.desc.trans h.desc
  opb := h'.opb.trans h.opb
  legal := h'.legal ∘ h.legal
  mod := h'.mod ∘ h.mod
  reg := h'.reg ∘ h.reg
  rm := h'.rm ∘ h.rm
  imm := h'.imm ∘ h.imm

theorem Work.Sized.grows {d : Desc} {w w' : Work} (h : w.Sized d) (hw : w.Grows w') : w'.Sized d where
  wf := h.wf
  sizes := by simpa only [SizesLegal, hw.defOpsize, hw.defAdsize] using h.sizes
  szovr := hw.szovr.trans h.szovr

/-- A stage from `w` that goes on to a point where `P` holds, or raises an error of `E`. -/
def Flow.Leads (E : Status → Prop) (P : Work → Prop) (w : Work) : Flow → Prop
  | .go w' => w.Grows w' ∧ P w'
  | .ended s => ∃ e w', E e ∧ w.Grows w' ∧ raise e w' = .ended s

section
variable {E : Status → Prop} {P Q : Work → Prop} {w w' : Work}

theorem Flow.Leads.from {f : Flow} (h : w.Grows w') (hf : f.Leads E P w') : f.Leads E P w := by
  cases f with
  | go w'' => exact ⟨h.trans hf.1, hf.2⟩
  | ended s =>
    obtain ⟨e, w'', he, hw, hs⟩ := hf
    exact ⟨e, w'', he, h.trans hw, hs⟩

theorem Flow.Leads.andThen {f : Flow} {k : Work → Flow} (hf : f.Leads E P w)
    (hk : ∀ w', w.Grows w' → P w' → (k w').Leads E Q w') : (f.andThen k).Leads E Q w := by
  cases f with
  | go w' => exact (hk w' hf.1 hf.2).from hf.1
  | ended s => exact hf

theorem Flow.Leads.mono {f : Flow} (hf : f.Leads E P w) (h : ∀ w', w.Grows w' → P w' → Q w') : f.Leads E Q w := by
  cases f with
  | go w' => exact ⟨hf.1, h w' hf.1 hf.2⟩
  | ended s => exact hf

theorem raise_leads {e : Status} (he : E e) (w : Work) : (raise e w).Leads E P w := ⟨e, w, he, .refl w, rfl⟩

theorem go_leads (h : w.Grows w') (hp : P w') : (Flow.go w').Leads E P w := ⟨h, hp⟩

end

/-- A SIB byte gives SCALE, INDEX and BASE together (10_state.md R60). -/
theorem setSib_grows (b : Byte) (w : Work) : w.Grows (setSib b w) := by
  refine ⟨rfl, rfl, rfl, rfl, rfl, fun h => ?_, id, id, id, id⟩
  have hscale : ∀ c : BitVec 2, 2 ^ c.toNat ∈ [0, 1, 2, 4, 8] := by decide
  exact { h with scale := hscale _, index := by simp, base := by simp }

theorem setModRm_grows (b : Byte) (w : Work) : w.Grows (setModRm b w) :=
  ⟨rfl, rfl, rfl, rfl, rfl, fun h => { h with }, fun _ => rfl, fun _ => rfl, fun _ => rfl, id⟩

/-- MOD, REG and RM hold values. -/
structure Work.HasModRm (w : Work) : Prop where
  mod : w.di.mod.isSome = true
  reg : w.di.reg.isSome = true
  rm : w.di.rm.isSome = true

theorem Work.HasModRm.grows {w w' : Work} (h : w.HasModRm) (hw : w.Grows w') : w'.HasModRm :=
  ⟨hw.mod h.mod, hw.reg h.reg, hw.rm h.rm⟩

/-- What an operand's tag writes holds a value (30_encoding.md R124). -/
structure Work.Wrote (t : Tag) (w : Work) : Prop where
  reg : t.writesReg = true → w.di.reg.isSome = true
  imm : t.immediate = true → w.di.imm.isSome = true

theorem Work.Wrote.grows {t : Tag} {w w' : Work} (h : w.Wrote t) (hw : w.Grows w') : w'.Wrote t :=
  ⟨hw.reg ∘ h.reg, hw.imm ∘ h.imm⟩

theorem writeReg_leads {E : Status → Prop} {t : Tag} {r : Option (BitVec 3)} {w : Work} (hr : r.isSome = true)
    (ht : t.immediate = false) : (Flow.go (w.setDi { w.di with reg := r })).Leads E (Work.Wrote t) w :=
  go_leads ⟨rfl, rfl, rfl, rfl, rfl, fun h => { h with }, id, fun _ => hr, id, id⟩ ⟨fun _ => hr, by simp [ht]⟩

/-! Stages whose errors are among `E`: END_OF_STREAM always, CONFIG_ASSERT unless every read has a width (20_memory.md R84, R85). -/

section
variable {E : Status → Prop} {P : Work → Prop} (heos : E .endOfStream)
include heos

theorem readN_leads {n : Nat} {w : Work} {k : Nat → Work → Flow} (hn : E .configAssert ∨ n = 1 ∨ n = 2 ∨ n = 4)
    (hk : ∀ v w', w.Grows w' → (k v w').Leads E P w') : (readN n w k).Leads E P w := by
  by_cases hwidth : n = 1 ∨ n = 2 ∨ n = 4
  · by_cases hsupply : w.ctx.pos + n ≤ w.ctx.srcLen
    · have hmove : w.Grows ⟨{ w.ctx with pos := w.ctx.pos + n }, w.di⟩ := ⟨rfl, rfl, rfl, rfl, rfl, id, id, id, id, id⟩
      rw [readN_supplied hwidth hsupply]
      exact (hk _ _ hmove).from hmove
    · rw [readN_short hwidth (Nat.not_le.mp hsupply)]
      exact raise_leads heos w
  · rw [readN_width hwidth]
    exact raise_leads (hn.resolve_right hwidth) w

theorem readByte_leads {w : Work} {k : Byte → Work → Flow}
    (hk : ∀ b w', w.Grows w' → (k b w').Leads E P w') : (readByte w k).Leads E P w :=
  readN_leads heos (.inr (.inl rfl)) fun _ => hk _

/-- A displacement's read writes DISP and DISP_SIZE together (10_state.md R61). -/
theorem readDisp_leads {n : Nat} {c : SizeClass} (hn : n = 1 ∨ n = 2 ∨ n = 4) (hc : c ∈ [SizeClass.byte, .word, .long])
    (w : Work) : (readDisp n c w).Leads E (fun _ => True) w := by
  refine readN_leads heos (.inr hn) fun v w' _ => go_leads ⟨rfl, rfl, rfl, rfl, rfl, fun h => ?_, id, id, id, id⟩ trivial
  have hsize : c ≠ .none := by rintro rfl; simp at hc
  exact { h with dispSize := List.mem_cons_of_mem _ hc, disp := by simpa [Work.setDi] using hsize }

theorem disp32_leads (mod : BitVec 2) (rm : BitVec 3) (w : Work) : (disp32 mod rm w).Leads E (fun _ => True) w := by
  unfold disp32
  split
  · exact readDisp_leads heos (by decide) (by decide) w
  split
  · exact readDisp_leads heos (by decide) (by decide) w
  split
  · exact readDisp_leads heos (by decide) (by decide) w
  · exact go_leads (.refl w) trivial

theorem disp16_leads (mod : BitVec 2) (rm : BitVec 3) (w : Work) : (disp16 mod rm w).Leads E (fun _ => True) w := by
  unfold disp16
  split
  · exact readDisp_leads heos (by decide) (by decide) w
  split
  · exact readDisp_leads heos (by decide) (by decide) w
  split
  · exact readDisp_leads heos (by decide) (by decide) w
  · exact go_leads (.refl w) trivial

theorem addressing_leads {a : SizeClass} (ha : E .configAssert ∨ a = .word ∨ a = .long) (mod : BitVec 2) (rm : BitVec 3)
    (w : Work) : (addressing a mod rm w).Leads E (fun _ => True) w := by
  unfold addressing
  split
  · split
    · exact readByte_leads heos fun b w' _ => (disp32_leads heos mod rm _).from (setSib_grows b w')
    · exact disp32_leads heos mod rm w
  · exact disp16_leads heos mod rm w
  · rename_i hlong hword
    exact raise_leads (ha.resolve_right (not_or.mpr ⟨hword, hlong⟩)) w

/-- The ModR/M stage writes MOD, REG and RM (40_decode_pipeline.md R176). -/
theorem modRm_leads {d : Desc} {w : Work} (hd : E .configAssert ∨ w.Sized d) : (modRm d w).Leads E Work.HasModRm w := by
  refine readByte_leads heos fun b w' hw => Flow.Leads.from (setModRm_grows b w') ?_
  have hfields : (setModRm b w').HasModRm := ⟨rfl, rfl, rfl⟩
  simp only []
  split
  · exact go_leads (.refl _) hfields
  · have had : E .configAssert ∨ adsize d (setModRm b w') = .word ∨ adsize d (setModRm b w') = .long :=
      hd.imp id fun h => (h.grows (hw.trans (setModRm_grows b w'))).adsize_legal
    exact (addressing_leads heos had _ _ _).mono fun _ hw _ => hfields.grows hw

theorem modRmStage_leads {d : Desc} {w : Work} (hd : E .configAssert ∨ w.Sized d) :
    (modRmStage d w).Leads E (fun w' => d.modRm = true → w'.HasModRm) w := by
  unfold modRmStage
  split
  · exact (modRm_leads heos hd).mono fun _ _ h _ => h
  · rename_i hno
    exact go_leads (.refl w) fun h => absurd h hno

/-- An immediate's read writes IMM. -/
theorem readImm_leads {n : Nat} (f : Nat → Word) {w : Work} (hn : E .configAssert ∨ n = 1 ∨ n = 2 ∨ n = 4) :
    (readImm n f w).Leads E (fun w' => w'.di.imm.isSome = true) w :=
  readN_leads heos hn fun _ _ _ => go_leads ⟨rfl, rfl, rfl, rfl, rfl, fun h => { h with }, id, id, id, fun _ => rfl⟩ rfl

/-- The action of one tag (40_decode_pipeline.md R183 to R191). -/
theorem extractTag_leads {d : Desc} {t : Tag} {w : Work} (hd : E .configAssert ∨ w.Sized d) (ht : t ∈ d.operands)
    (hopb : w.di.opb.isSome = true) : (extractTag d t w).Leads E (Work.Wrote t) w := by
  have himm {n : Nat} (f : Nat → Word) (hn : E .configAssert ∨ n = 1 ∨ n = 2 ∨ n = 4) (hreg : t.writesReg = false) :
      (readImm n f w).Leads E (Work.Wrote t) w :=
    (readImm_leads heos f hn).mono fun _ _ h => ⟨by simp [hreg], fun _ => h⟩
  cases t
  case al | eax | cl | dx | fs | gs | yb | yv => exact writeReg_leads rfl rfl
  case zb | zv | zd | seg2 => exact writeReg_leads (by simpa using hopb) rfl
  case ib | iw | il | ibs | jb => exact himm _ (.inr (by decide)) rfl
  case iv => exact himm _ (hd.imp id fun h => h.opsize_width ht) rfl
  case ov | jv => exact himm _ (hd.imp id fun h => h.adsize_width) rfl
  all_goals exact go_leads (.refl w) ⟨by simp [Tag.writesReg], by simp [Tag.immediate]⟩

/-- The operand extractor, over operands of the descriptor. -/
theorem extractTags_leads {d : Desc} {ts : List Tag} {w : Work} (hd : E .configAssert ∨ w.Sized d)
    (hts : ∀ t ∈ ts, t ∈ d.operands) (hopb : w.di.opb.isSome = true) :
    (extractTags d ts w).Leads E (fun w' => ∀ t ∈ ts, w'.Wrote t) w := by
  induction ts generalizing w with
  | nil => exact go_leads (.refl w) (by simp)
  | cons t ts ih =>
    have ht := hts t List.mem_cons_self
    have hstep : extractTags d (t :: ts) w = (extractTag d t w).andThen (extractTags d ts) := by
      cases t
      case none => exact absurd rfl (Desc.ne_none_of_mem_operands ht)
      all_goals rfl
    rw [hstep]
    refine (extractTag_leads heos hd ht hopb).andThen fun w' hw hwrote => ?_
    have htail : ∀ u ∈ ts, u ∈ d.operands := fun u hu => hts u (List.mem_cons_of_mem t hu)
    refine (ih (hd.imp id (·.grows hw)) htail (by rwa [hw.opb])).mono fun w'' hw' hrest u hu => ?_
    rcases List.mem_cons.mp hu with rfl | hu
    · exact hwrote.grows hw'
    · exact hrest u hu

end

end Sys2Proof.Machine

/-! SUPPORT. Over well-formed tables and legal defaults every DECODE ends with a record and a STATUS that the invariant allows. -/

namespace Sys2Proof.Machine

open Sys2Proof.Claims

/-- An error that DECODE can end with over well-formed tables (60_exceptions.md R602, R606). -/
def Status.decodeError (e : Status) : Prop := e = .endOfStream ∨ e = .unknownOpcode ∨ e = .groupLookupFailed

/-- How a DECODE over the tables `t` has ended: the record's fields agree, STATUS is one that DECODE can leave, and after a success DESC
names a descriptor and the fields that are valid under it hold values (10_state.md R56, R66). -/
structure State.EndsSound (t : Tables) (s : State) : Prop where
  legal : ∃ r, s.di = some r ∧ r.Legal
  status : ∃ e, s.status = some e ∧ e.ofDecode = true
  valid : ∀ r, s.di = some r → s.status = some .ok → ∃ d, r.desc.bind (·.resolve t Ref.xchg66_90) = some d ∧ r.Valid d

/-- A stage that goes on to a point where `P` holds, or has ended so. -/
def Flow.Sound (t : Tables) (P : Work → Prop) : Flow → Prop
  | .go w => P w
  | .ended s => s.EndsSound t

/-- A stage that ends the DECODE so. -/
def Flow.EndsSound (t : Tables) (f : Flow) : Prop := f.state.EndsSound t

section
variable {t : Tables}

theorem Flow.Sound.andThen {P : Work → Prop} {f : Flow} {k : Work → Flow} (hf : f.Sound t P)
    (hk : ∀ w, P w → (k w).EndsSound t) : (f.andThen k).EndsSound t := by
  cases f with
  | go w => exact hk w hf
  | ended s => exact hf

theorem raise_endsSound {e : Status} (he : e.decodeError) {w : Work} (hw : w.di.Legal) : (raise e w).EndsSound t := by
  refine ⟨⟨w.di, rfl, hw⟩, ⟨e, rfl, ?_⟩, fun r _ hok => ?_⟩
  · rcases he with rfl | rfl | rfl <;> rfl
  · obtain rfl : e = .ok := Option.some.inj hok
    simp [Status.decodeError] at he

theorem complete_endsSound {w : Work} {d : Desc} (hw : w.di.Legal)
    (hd : w.di.desc.bind (·.resolve t Ref.xchg66_90) = some d) (hv : w.di.Valid d) : (complete w).EndsSound t := by
  refine ⟨⟨w.di, rfl, hw⟩, ⟨.ok, rfl, rfl⟩, fun r hr _ => ?_⟩
  obtain rfl : w.di = r := Option.some.inj hr
  exact ⟨d, hd, hv⟩

/-- A stage whose errors are DECODE's keeps the record's fields in agreement. -/
theorem Flow.Leads.sound {P : Work → Prop} {w : Work} {f : Flow} (hf : f.Leads Status.decodeError P w) (hw : w.di.Legal) :
    f.Sound t fun w' => w.Grows w' ∧ P w' := by
  cases f with
  | go w' => exact hf
  | ended s =>
    obtain ⟨e, w', he, hgrows, hs⟩ := hf
    have hends : (raise e w').EndsSound t := raise_endsSound he (hgrows.legal hw)
    rwa [hs] at hends

/-- A lookup has found the descriptor `d`: DESC names it, SZOVR is loaded, and OPB is latched (R170, R172). -/
structure Work.Selected (t : Tables) (d : Desc) (w : Work) : Prop where
  sized : w.Sized d
  legal : w.di.Legal
  desc : w.di.desc.bind (·.resolve t Ref.xchg66_90) = some d
  opb : w.di.opb.isSome = true

theorem Work.Selected.grows {d : Desc} {w w' : Work} (h : w.Selected t d) (hw : w.Grows w') : w'.Selected t d where
  sized := h.sized.grows hw
  legal := hw.legal h.legal
  desc := by rw [hw.desc, h.desc]
  opb := by rw [hw.opb, h.opb]

/-- The operand stage of a descriptor whose ModR/M byte, if it has one, has been read: on success every field that is valid under it
holds a value. -/
theorem operandStage_endsSound {d : Desc} {w : Work} (h : w.Selected t d) (hmod : d.modRm = true → w.HasModRm) :
    (operandStage d w).EndsSound t := by
  rw [operandStage, extractTags_operands]
  refine ((extractTags_leads (.inl rfl) (.inr h.sized) (fun _ => id) h.opb).sound h.legal).andThen fun w' ⟨hw, hwrote⟩ => ?_
  have h' := h.grows hw
  refine complete_endsSound h'.legal h'.desc ⟨fun hd => ?_, fun hd => ?_, fun hd => ?_, fun hd => ?_⟩
  · exact hw.mod (hmod hd).mod
  · exact hw.rm (hmod hd).rm
  · rcases hd with hd | hd
    · exact hw.reg (hmod hd).reg
    · obtain ⟨u, hu, hreg⟩ := List.any_eq_true.mp hd
      exact (hwrote u hu).reg hreg
  · obtain ⟨u, hu, himm⟩ := List.any_eq_true.mp hd
    exact (hwrote u hu).imm himm

/-- A DECODE between two stages, before a lookup: the defaults are legal and the record's fields agree. -/
structure Work.Between (w : Work) : Prop where
  sizes : SizesLegal w.ctx
  legal : w.di.Legal

theorem Work.Between.skip {w : Work} (h : w.Between) : w.skip.Between := ⟨h.sizes, h.legal⟩

theorem Work.Between.latchOpcode {w : Work} (h : w.Between) (b : Byte) : (latchOpcode b w).Between :=
  ⟨h.sizes, { h.legal with }⟩

/-- PFX bits 9 and 10 and the seen flags are set together (30_encoding.md R112). -/
theorem Work.Between.recordPrefix {w : Work} (h : w.Between) (i : Nat) : (recordPrefix i w).Between := by
  have hbit (j : Nat) (hj : j < 11) : (1#11 <<< i).getLsbD j = (i == j) := by
    simp only [BitVec.getLsbD_shiftLeft, BitVec.getLsbD_one]
    grind
  refine ⟨h.sizes, { h.legal with opszSeen := ?_, adszSeen := ?_ }⟩
  · rw [recordPrefix_opszSeen, recordPrefix_pfx, BitVec.getLsbD_or, hbit 9 (by decide), h.legal.opszSeen]
  · rw [recordPrefix_adszSeen, recordPrefix_pfx, BitVec.getLsbD_or, hbit 10 (by decide), h.legal.adszSeen]

theorem Work.Between.select {w : Work} (h : w.Between) (ht : t.wf = true) {ref : DescRef} {key : Nat} (hkey : key < 2 ^ 24)
    {d : Desc} (hd : ref.resolve t Ref.xchg66_90 = some d) (hopb : w.di.opb.isSome = true) :
    (select ref key d w).Selected t d where
  sized := ⟨DescRef.resolve_wf ht hd, h.sizes, rfl⟩
  legal := { h.legal with opkey := by rintro k hk; cases hk; exact hkey }
  desc := hd
  opb := hopb

theorem lookupFailed_endsSound {key : Nat} (hkey : key < 2 ^ 24) {e : Status} (he : e.decodeError) {w : Work} (hw : w.di.Legal) :
    (lookupFailed key e w).EndsSound t :=
  raise_endsSound he { hw with opkey := by rintro k hk; cases hk; exact hkey }

theorem readByte_endsSound {w : Work} (h : w.Between) {k : Byte → Work → Flow} (hk : ∀ b, (k b w.skip).EndsSound t) :
    (readByte w k).EndsSound t := by
  by_cases hlt : w.ctx.pos < w.ctx.srcLen
  · rw [readByte_of_lt hlt]
    exact hk _
  · rw [readByte_of_le (Nat.not_lt.mp hlt)]
    exact raise_endsSound (.inl rfl) h.legal

/-- PrefixScan() (R164 to R166). -/
theorem prefixScan_sound (fuel : Nat) {w : Work} (h : w.Between) : (prefixScan fuel w).Sound t Work.Between := by
  induction fuel generalizing w with
  | zero => exact h
  | succ fuel ih =>
    rw [prefixScan]
    by_cases hlt : w.ctx.pos < w.ctx.srcLen
    · rw [readByte_of_lt hlt]
      cases prefixBit (w.ctx.src.read w.ctx.pos) with
      | some i => exact ih (h.skip.recordPrefix i)
      | none => exact h
    · rw [readByte_of_le (Nat.not_lt.mp hlt)]
      exact raise_endsSound (.inl rfl) h.legal

/-- Group resolution and the member's operands, after the ModR/M byte of a group-dispatch entry (R174, R175). -/
theorem resolveGroup_endsSound (ht : t.wf = true) {key : Nat} (hkey : key < 2 ^ 16) {p : Desc} {w : Work} (h : w.Selected t p)
    (hmod : w.HasModRm) :
    ((resolveGroup (rowAt t.tg) key w).andThen fun w =>
      match w.di.opkey.bind (rowAt t.tg) with
      | some m => operandStage m w
      | none => .go w).EndsSound t := by
  obtain ⟨r, hr⟩ := Option.isSome_iff_exists.mp hmod.reg
  have hmember : key * 256 + r.toNat < 2 ^ 24 := by have := r.isLt; omega
  cases hd : rowAt t.tg (key * 256 + r.toNat) with
  | none =>
    rw [resolveGroup_absent hr hd]
    exact lookupFailed_endsSound hmember (.inr (.inr rfl)) h.legal
  | some d =>
    rw [resolveGroup_present hr hd, Flow.andThen_go, select_opkey, Option.bind_some, hd]
    have hbetween : w.Between := ⟨h.sized.sizes, h.legal⟩
    exact operandStage_endsSound (hbetween.select ht hmember hd h.opb) fun _ => ⟨hmod.mod, hmod.reg, hmod.rm⟩

/-- The stages after a lookup (R171 to R175, R182, R197). -/
theorem afterLookup_endsSound (ht : t.wf = true) {ref : DescRef} {key : Nat} (hkey : key < 2 ^ 16) {found : Option Desc}
    (hfound : ref.resolve t Ref.xchg66_90 = found) {w : Work} (h : w.Between) (hopb : w.di.opb.isSome = true) :
    (afterLookup (rowAt t.tg) ref key found w).EndsSound t := by
  have hbound : key < 2 ^ 24 := by omega
  cases found with
  | none => exact lookupFailed_endsSound hbound (.inr (.inl rfl)) h.legal
  | some d =>
    have hsel : (select ref key d w).Selected t d := h.select ht hbound hfound hopb
    refine ((modRmStage_leads (.inl rfl) (.inr hsel.sized)).sound hsel.legal).andThen fun w' ⟨hw, hmod⟩ => ?_
    split
    · rename_i hgroup
      exact resolveGroup_endsSound ht hkey (hsel.grows hw) (hmod ((Desc.laws_of_wf hsel.sized.wf).group hgroup))
    · exact operandStage_endsSound (hsel.grows hw) hmod

/-- ResolveOpcode() and what follows it (R167 to R170). -/
theorem resolveOpcode_endsSound (ht : t.wf = true) {w : Work} (h : w.Between) : (resolveOpcode t w).EndsSound t := by
  refine readByte_endsSound h fun b => ?_
  have hb := b.isLt
  have hlatched : (latchOpcode b w.skip).Between := h.skip.latchOpcode b
  simp only []
  split
  · rw [finishRow_eq_afterLookup (rowAt t.tg) _ _ rfl]
    exact afterLookup_endsSound ht (by decide) rfl hlatched rfl
  split
  · refine readByte_endsSound hlatched fun b2 => ?_
    have hb2 := b2.isLt
    exact afterLookup_endsSound ht (by omega) rfl (hlatched.skip.latchOpcode b2) rfl
  · exact afterLookup_endsSound ht (by omega) rfl hlatched rfl

theorem pipeline_endsSound (ht : t.wf = true) {s : State} (hs : SizesLegal s) : (pipeline t s).EndsSound t := by
  have hbegin : s.begin.Between := ⟨hs, by constructor <;> simp [State.begin, Di.fresh]⟩
  exact (prefixScan_sound _ hbegin).andThen fun w h => resolveOpcode_endsSound ht h

end

/-! The invariant. -/

theorem defaultSize_legal (pe dflag : Bool) : defaultSize pe dflag = .word ∨ defaultSize pe dflag = .long := by
  unfold defaultSize
  split
  · exact .inr rfl
  · exact .inl rfl

theorem State.Inv.sizesLegal {s : State} (h : s.Inv) : SizesLegal s :=
  ⟨h.defOpsize ▸ defaultSize_legal _ _, h.defAdsize ▸ defaultSize_legal _ _⟩

/-- DECODE keeps the invariant, over any tables. -/
theorem decodeOp_inv {s t : State} (hs : s.Inv) (h : decodeOp s = .next t) : t.Inv := by
  obtain ⟨hout, hstart, -, hinside, -, -⟩ := decodeOp_end h
  have hsound : t.EndsSound t.tables.tables := by
    rw [decodeOp_eq_pipeline] at h
    obtain rfl := Host.Outcome.next.inj h
    rw [hout.tables]
    exact pipeline_endsSound hs.tables hs.sizesLegal
  obtain ⟨⟨r, hr, hlegal⟩, ⟨e, he, hofDecode⟩, hvalid⟩ := hsound
  constructor
  case srcWf => rw [hout.src]; exact hs.srcWf
  case srcBelow => rw [hout.src, hout.srcLen]; exact hs.srcBelow
  case pos => rw [hout.srcLen]; exact hinside hs.pos
  case start =>
    rw [hstart, hout.srcLen]
    rintro p hp
    exact Option.some.inj hp ▸ hs.pos
  case defOpsize => rw [hout.defOpsize, hout.pe, hout.dflag]; exact hs.defOpsize
  case defAdsize => rw [hout.defAdsize, hout.pe, hout.dflag]; exact hs.defAdsize
  case tables => rw [hout.tables]; exact hs.tables
  case status => rw [he, hr]; rfl
  case started => rw [hstart, hr]; rfl
  case decodeStatus => rw [he]; rintro _ ⟨⟩; exact hofDecode
  case legal => rw [hr]; rintro _ ⟨⟩; exact hlegal
  case valid => exact hvalid
  case reply => rw [hout.reply]; exact hs.reply
  case setStatus => rw [hout.setStatus]; exact hs.setStatus

end Sys2Proof.Machine

/-! SUPPORT. FORMAT of a record whose fields are valid under its descriptor reads no field without a value, and fails only with the two
statuses of R525. -/

namespace Sys2Proof.Machine

open Sys2Proof.Claims

/-- A text, or one of FORMAT's failures (49_formatter.md R501, R525). -/
def Rendered.Answers : Rendered → Prop
  | .text _ => True
  | .fails e => e = .unsupportedAddressing ∨ e = .formatRuleGap
  | .noValue _ => False

theorem text_answers (t : String) : (Rendered.text t).Answers := trivial

theorem gap_answers : (Rendered.fails .formatRuleGap).Answers := .inr rfl

theorem Rendered.Answers.andThen {r : Rendered} {k : String → Rendered} (h : r.Answers) (hk : ∀ t, (k t).Answers) :
    (r.andThen k).Answers := by
  cases r with
  | text t => exact hk t
  | fails e => exact h
  | noValue f => exact h.elim

theorem field_answers {α : Type} {f : Field} {o : Option α} {k : α → Rendered} (ho : o.isSome = true)
    (hk : ∀ v, (k v).Answers) : (field f o k).Answers := by
  cases o with
  | some v => exact hk v
  | none => cases ho

theorem ruleText_answers (o : Option String) : (ruleText o).Answers := by
  cases o with
  | some t => exact text_answers t
  | none => exact gap_answers

theorem withBytes_answers {k : Nat → Rendered} (hk : ∀ n, (k n).Answers) (c : SizeClass) : (withBytes c k).Answers := by
  unfold withBytes
  split
  · exact hk _
  · exact gap_answers

theorem ite_answers {p : Prop} [Decidable p] {r r' : Rendered} (h : r.Answers) (h' : r'.Answers) :
    (if p then r else r').Answers := by
  split
  · exact h
  · exact h'

theorem gpr_answers (s : SizeClass) (c : BitVec 3) : (gpr s c).Answers := ruleText_answers _

theorem segReg_answers (c : BitVec 3) : (segReg c).Answers := ruleText_answers _

theorem regOperand_answers {w : Work} (h : w.di.reg.isSome = true) (s : SizeClass) : (regOperand w s).Answers :=
  field_answers h (gpr_answers s)

theorem immOperand_answers {w : Work} (h : w.di.imm.isSome = true) (n : Nat) : (immOperand w n).Answers :=
  field_answers h fun _ => text_answers _

theorem sizeLetter_answers (c : SizeClass) : (sizeLetter c).Answers := by
  cases c
  case byte | word | long => exact text_answers _
  all_goals exact gap_answers

/-- A record that is valid under a well-formed descriptor, its DECODE having begun (10_state.md R66). -/
structure Work.Renderable (d : Desc) (w : Work) : Prop where
  wf : d.wf = true
  legal : w.di.Legal
  valid : w.di.Valid d
  start : w.ctx.start.isSome = true

section
variable {d : Desc} {w : Work} (h : w.Renderable d)
include h

/-- INDEX and BASE hold values where SCALE is not 0 (10_state.md R60). -/
theorem paren_answers (mod : BitVec 2) (rm : BitVec 3) : (paren d w.di mod rm).Answers := by
  unfold paren
  split
  · rename_i hscale
    have hsome : (w.di.scale != 0) = true := by simpa using hscale
    refine field_answers (h.legal.index.trans hsome) fun index => field_answers (h.legal.base.trans hsome) fun base => ?_
    exact ite_answers (ite_answers (ite_answers (text_answers _) (text_answers _)) (text_answers _))
      (ite_answers (text_answers _) (text_answers _))
  · exact ite_answers (text_answers _) (text_answers _)

/-- DISP holds a value where DISP_SIZE is not NONE (R61). -/
theorem dispText_answers (p : String) : (dispText w.di p).Answers := by
  unfold dispText
  split
  · exact text_answers _
  · rename_i hsize
    have hsome : (w.di.dispSize != .none) = true := by simpa using hsize
    exact field_answers (h.legal.disp.trans hsome) fun v =>
      ite_answers (withBytes_answers (fun n => text_answers _) _) (text_answers _)

theorem memExpr_answers (mod : BitVec 2) (rm : BitVec 3) : (memExpr d w mod rm).Answers := by
  exact ite_answers ((paren_answers h mod rm).andThen fun p => (dispText_answers h p).andThen fun t => text_answers _) (.inl rfl)

/-- MOD and RM hold values where the descriptor has a ModR/M byte (R59). -/
theorem rmOperand_answers (hmod : d.modRm = true) (size : SizeClass) : (rmOperand d w size).Answers := by
  refine field_answers (h.valid.mod hmod) fun mod => field_answers (h.valid.rm hmod) fun rm => ?_
  exact (ite_answers (gpr_answers size rm) (memExpr_answers h mod rm)).andThen fun t => text_answers _

theorem target_answers (himm : w.di.imm.isSome = true) (rel : Nat → Word → Int) : (target d w rel).Answers :=
  withBytes_answers (fun _ => field_answers himm fun _ => field_answers h.start fun _ => text_answers _) _

/-- Each operand's text reads the fields that its tag makes valid (W4, R66). -/
theorem operandText_answers {t : Tag} (ht : t ∈ d.operands) : (operandText d w t).Answers := by
  have hmod (hr : t.readsReg = true ∨ t.readsRm = true) : d.modRm = true := (Desc.laws_of_wf h.wf).reads t ht hr
  have hreads (hr : t.readsReg = true) : w.di.reg.isSome = true := h.valid.reg (.inl (hmod (.inl hr)))
  have hwrites (hr : t.writesReg = true) : w.di.reg.isSome = true := h.valid.reg (.inr (List.any_eq_true.mpr ⟨t, ht, hr⟩))
  have himm (hi : t.immediate = true) : w.di.imm.isSome = true := h.valid.imm (List.any_eq_true.mpr ⟨t, ht, hi⟩)
  cases t
  case al | eax | cl => exact gpr_answers _ _
  case dx => exact text_answers _
  case gb | gw | gv => exact regOperand_answers (hreads rfl) _
  case zb | zv | zd => exact regOperand_answers (hwrites rfl) _
  case eb | ew | ev | rd | m => exact rmOperand_answers h (hmod (.inr rfl)) _
  case sw => exact field_answers (hreads rfl) segReg_answers
  case seg2 | fs | gs => exact field_answers (hwrites rfl) segReg_answers
  case cr | dr => exact field_answers (hreads rfl) fun _ => text_answers _
  case ib | iw | il | iv | ibs =>
    rw [operandText]
    exact withBytes_answers (immOperand_answers (himm rfl)) _
  case ov => exact field_answers (himm rfl) fun _ => text_answers _
  case jb | jv => exact target_answers h (himm rfl) _
  case xb | xv | yb | yv => exact ite_answers (text_answers _) gap_answers
  case none | other => exact gap_answers

theorem operandTexts_answers {ts : List Tag} (hts : ∀ t ∈ ts, t ∈ d.operands) : (operandTexts d w ts).Answers := by
  induction ts with
  | nil => exact text_answers _
  | cons t ts ih =>
    have hhead := operandText_answers h (hts t List.mem_cons_self)
    cases ts with
    | nil => exact hhead
    | cons u us => exact hhead.andThen fun _ => (ih fun v hv => hts v (List.mem_cons_of_mem t hv)).andThen fun _ => text_answers _

/-- The mnemonic reads MOD only under SUFFIX, which W10 gives a ModR/M byte. -/
theorem mnemonicText_answers : (mnemonicText d w).Answers := by
  have hletter (g : String → String) : ((sizeLetter (opsize d w)).andThen fun l => .text (g l)).Answers :=
    (sizeLetter_answers _).andThen fun _ => text_answers _
  unfold mnemonicText
  split
  · split
    · rename_i hsuffix
      exact field_answers (h.valid.mod ((Desc.laws_of_wf h.wf).suffix hsuffix)) fun mod =>
        ite_answers (text_answers _) (hletter _)
    · exact text_answers _
  all_goals exact ite_answers (hletter _) (text_answers _)

theorem operandsText_answers : (operandsText d w).Answers :=
  ite_answers (text_answers _)
    ((operandTexts_answers h fun _ ht => List.mem_reverse.mp ht).andThen fun _ => text_answers _)

theorem renderDesc_answers : (renderDesc d w).Answers :=
  (mnemonicText_answers h).andThen fun _ =>
    ite_answers (.inl rfl) ((operandsText_answers h).andThen fun _ => text_answers _)

end

/-- From the invariant, FORMAT of a successful DECODE answers. -/
theorem State.Inv.render_answers {s : State} (hs : s.Inv) (hok : s.status = some .ok) : s.render.Answers := by
  have hrecord : s.di.isSome = true := by rw [← hs.status, hok]; rfl
  obtain ⟨r, hr⟩ := Option.isSome_iff_exists.mp hrecord
  obtain ⟨d, hd, hvalid⟩ := hs.valid r hr hok
  obtain ⟨ref, -, href⟩ := Option.bind_eq_some_iff.mp hd
  have hrender : s.render = renderDesc d ⟨s, r⟩ := by simp only [State.render, hr, hd, field]
  rw [hrender]
  exact renderDesc_answers ⟨DescRef.resolve_wf hs.tables href, hs.legal r hr, hvalid, by rw [hs.started, hr]; rfl⟩

end Sys2Proof.Machine

/-! SUPPORT. Every host operation keeps the invariant, and none stops from it. -/

namespace Sys2Proof.Machine

open Sys2Proof.Claims

/-- The defaults recomputed from any flags (10_state.md R50). -/
theorem State.Inv.recompute {s : State} (h : s.Inv) (pe dflag : Bool) :
    (recompute { s with pe := pe, dflag := dflag }).Inv :=
  { h with defOpsize := rfl, defAdsize := rfl }

theorem State.Inv.setterOk {s : State} (h : s.Inv) : (setterOk s).Inv :=
  { h with setStatus := by rintro e he; exact (Option.some.inj he).symm }

theorem State.Inv.refuseRequest {s : State} (h : s.Inv) : (refuseRequest s).Inv := { h with }

theorem State.Inv.refuseSetter {s : State} (h : s.Inv) : (refuseSetter s).Inv := { h with setStatus := by rintro e ⟨⟩ }

theorem setDOp_inv {s : State} (h : s.Inv) (v : Nat) : (setDOp v s).Inv := by
  unfold setDOp
  split
  · split
    · exact h.setterOk
    · exact (h.recompute s.pe (v == 1)).setterOk
  · exact h.refuseSetter

theorem setPeOp_inv {s : State} (h : s.Inv) (v : Nat) : (setPeOp v s).Inv := by
  unfold setPeOp
  split
  · split
    · exact h.setterOk
    · exact (h.recompute (v == 1) s.dflag).setterOk
  · exact h.refuseSetter

theorem setPosOp_inv {s : State} (h : s.Inv) (p : Nat) : (setPosOp p s).Inv := by
  unfold setPosOp
  split
  · rename_i hp
    have hmoved : State.Inv { s with pos := p } := { h with pos := hp }
    exact hmoved.setterOk
  · exact h.refuseSetter

/-- A write below the length lists no offset at or above it. -/
theorem Memory.below_write {m : Memory} {len : Nat} (h : m.below len = true) {a : Nat} (ha : a < len) (b : Byte) :
    (m.write a b).below len = true := by
  induction m with
  | nil => unfold Memory.write; split <;> simp [Memory.below, ha]
  | cons c m ih =>
    obtain ⟨x, v⟩ := c
    obtain ⟨hx, hm⟩ : x < len ∧ Memory.below m len = true := by simpa [Memory.below] using h
    have hcons {y : Nat} {u : Byte} {m' : Memory} (hy : y < len) (hm' : Memory.below m' len = true) :
        Memory.below ((y, u) :: m') len = true := by simpa [Memory.below, hy] using hm'
    unfold Memory.write
    split_ifs
    · exact h
    · exact hcons ha h
    · exact hm
    · exact hcons ha hm
    · exact hcons hx (ih hm)

theorem sourceByteOp_inv {s : State} (h : s.Inv) (a : Nat) (b : Byte) : (sourceByteOp a b s).Inv := by
  unfold sourceByteOp
  split
  · rename_i ha
    exact { h with srcWf := Memory.wf_write h.srcWf a b, srcBelow := Memory.below_write h.srcBelow ha b }
  · exact h.refuseRequest

/-- FORMAT may run only after a DECODE that succeeded (49_formatter.md R501). -/
theorem State.status_of_formatAllowed {s : State} (h : s.formatAllowed = true) : s.status = some .ok := by
  simpa using (Bool.and_eq_true_iff.mp h).1

/-- From the invariant FORMAT answers a state that satisfies it. -/
theorem formatOp_inv {s : State} (h : s.Inv) : ∃ t, formatOp s = .next t ∧ t.Inv := by
  unfold formatOp
  split
  · rename_i hallowed
    have hanswers := h.render_answers (State.status_of_formatAllowed hallowed)
    cases hr : s.render with
    | text t => exact ⟨_, rfl, { h with reply := by rintro r ⟨⟩; exact ⟨rfl, rfl⟩ }⟩
    | fails e =>
      refine ⟨_, rfl, { h with reply := ?_ }⟩
      rintro r ⟨⟩
      rw [hr] at hanswers
      rcases hanswers with rfl | rfl <;> exact ⟨rfl, rfl⟩
    | noValue f => rw [hr] at hanswers; exact hanswers.elim
  · exact ⟨_, rfl, h.refuseRequest⟩

theorem decodeOp_next_inv {s : State} (h : s.Inv) : ∃ t, decodeOp s = .next t ∧ t.Inv :=
  ⟨_, decodeOp_eq_pipeline s, decodeOp_inv h (decodeOp_eq_pipeline s)⟩

theorem runRequest_inv {s : State} (h : s.Inv) (r : Request) : ∃ t, runRequest r s = .next t ∧ t.Inv := by
  cases r with
  | decode => exact decodeOp_next_inv h
  | setD v => exact ⟨_, rfl, setDOp_inv h v⟩
  | setPe v => exact ⟨_, rfl, setPeOp_inv h v⟩
  | setPos p => exact ⟨_, rfl, setPosOp_inv h p⟩
  | format => exact formatOp_inv h
  | sourceByte a b => exact ⟨_, rfl, sourceByteOp_inv h a b⟩

/-- From the invariant a step answers a next state, and that state satisfies it. -/
theorem step_inv {s : State} (h : s.Inv) : ∃ t, step s = .next t ∧ t.Inv := by
  unfold step runNext
  split
  · exact decodeOp_next_inv h
  · rename_i r rs _
    have hpopped : State.Inv { s with requests := rs } := { h with }
    exact runRequest_inv hpopped r

/-! The statements of 10_state.md about every step. -/

/-- Settles O5: each host operation keeps the invariant, DECODE because every stage of the pipeline keeps the record's fields in agreement
and its success leaves the valid fields with values, FORMAT because what it reads of such a record has a value. -/
theorem stepKeepsInv : Obligations.StepKeepsInv := by
  intro s t hs h
  obtain ⟨u, hu, hinv⟩ := step_inv hs
  obtain rfl := Host.Outcome.next.inj (hu.symm.trans h)
  exact hinv

/-- Settles O6: the one operation that can stop is FORMAT, on a field without a value, and the invariant gives every field it reads a
value. -/
theorem stepNeverStops : Obligations.StepNeverStops := by
  intro s hs
  obtain ⟨t, ht, -⟩ := step_inv hs
  exact ⟨t, ht⟩

/-- Settles O8: the invariant says the defaults are what PE and DFLAG give, which is word or long, and a step keeps it. -/
theorem defaultsStayWordOrLong : Obligations.DefaultsStayWordOrLong := by
  intro s t hs h
  obtain ⟨hop, had⟩ := hs.sizesLegal
  obtain ⟨hop', had'⟩ := (stepKeepsInv s t hs h).sizesLegal
  exact ⟨hop, had, hop', had'⟩

end Sys2Proof.Machine

/-! SUPPORT. What every row of the opcode table leaves alone, and how far it reads. -/

namespace Sys2Proof.Machine

open Sys2Proof.Claims

/-! The rows of the prefixes are exactly those that record one. -/

/-- A row's meaning, run over a source of one zero byte, sets a PFX bit. -/
def recordsPrefix (row : State → Result) : Bool :=
  match row { State.reset with srcLen := 1 } with
  | .next t => t.di.any (·.pfx != 0)
  | .fault _ => false
  | .refused _ => false

theorem recordsPrefix_exec (i : Instr) : recordsPrefix (exec i) = decide (i ∈ prefixRows) := by
  cases i <;> rfl

theorem recordsPrefix_prefixRow : ∀ bit < 11, recordsPrefix (prefixRow bit) = true := by decide

theorem mem_prefixRows_of_exec {i : Instr} {bit : Nat} (hbit : bit < 11) (h : exec i = prefixRow bit) : i ∈ prefixRows := by
  have hrec := recordsPrefix_exec i
  rw [h, recordsPrefix_prefixRow bit hbit] at hrec
  exact of_decide_eq_true hrec.symm

/-- The rows of the prefixes record them (40_decode_pipeline.md R165). -/
theorem exec_of_mem_prefixRows {i : Instr} (h : i ∈ prefixRows) : ∃ bit, exec i = prefixRow bit := by
  have hrows : ∀ p ∈ prefixBits, exec p.1 = prefixRow p.2 := by
    refine List.forall_iff_forall_mem.mp ?_
    and_intros <;> rfl
  obtain ⟨p, hp, rfl⟩ := List.mem_map.mp h
  exact ⟨p.2, hrows p hp⟩

/-! How a row ends. -/

/-- A row run from `w` leaves `t`: nothing but POS, START, the record, STATUS, the copy of the defaults and the fault mark has changed;
the copy changes on success only, the fault mark on CONFIG_ASSERT only; at most n bytes were read; and the record satisfies `R`. -/
structure State.RowEnd (n : Nat) (w : Work) (R : Di → Prop) (t : State) : Prop where
  outside : SameOutside w.ctx t
  start : t.start = w.ctx.start
  fmtDefs : t.status ≠ some .ok → t.fmtDefs = w.ctx.fmtDefs
  faultMark : t.status ≠ some .configAssert → t.faultMark = w.ctx.faultMark
  record : ∃ d, t.di = some d ∧ R d
  forward : w.ctx.pos ≤ t.pos
  bound : t.pos ≤ w.ctx.pos + n
  inside : w.ctx.pos ≤ w.ctx.srcLen → t.pos ≤ w.ctx.srcLen

/-- The record holds the prefixes of the DECODE in progress. -/
def Work.SamePrefixes (w : Work) (d : Di) : Prop :=
  d.pfx = w.di.pfx ∧ d.opszSeen = w.di.opszSeen ∧ d.adszSeen = w.di.adszSeen

/-- A stage whose error is no failure of FORMAT's (60_exceptions.md R602). -/
def Flow.NoGap (f : Flow) : Prop := f.state.status ≠ some .formatRuleGap

/-- A stage that reads at most n bytes, within the frame of a row. -/
structure Flow.Bounded (n : Nat) (w : Work) (f : Flow) : Prop where
  frame : Flow.Frame n w f
  noGap : f.NoGap

/-- The errors that `Flow.NoGap` allows. -/
abbrev Status.noGap (e : Status) : Prop := e ≠ .formatRuleGap

theorem raise_noGap {e : Status} (he : e.noGap) (w : Work) : (raise e w).NoGap := fun h => he (Option.some.inj h)

theorem go_noGap (w : Work) : (Flow.go w).NoGap := nofun

theorem complete_noGap (w : Work) : (complete w).NoGap := nofun

theorem Flow.Leads.noGap_andThen {P : Work → Prop} {w : Work} {f : Flow} {k : Work → Flow} (hf : f.Leads Status.noGap P w)
    (hk : ∀ w', w.Grows w' → (k w').NoGap) : (f.andThen k).NoGap := by
  cases f with
  | go w' => exact hk w' hf.1
  | ended s =>
    obtain ⟨e, w', he, -, hs⟩ := hf
    rw [← hs]
    exact raise_noGap he w'

section
variable {R : Di → Prop} {w : Work}

theorem go_rowEnd (hr : R w.di) : State.RowEnd 0 w R (Flow.go w).state :=
  ⟨by constructor <;> rfl, rfl, fun _ => rfl, fun _ => rfl, ⟨w.di, rfl, hr⟩, Nat.le_refl _, Nat.le_refl _, id⟩

theorem complete_rowEnd (hr : R w.di) : State.RowEnd 0 w R (complete w).state :=
  ⟨(complete_ends w).1.outside, rfl, fun h => absurd rfl h, fun _ => rfl, ⟨w.di, rfl, hr⟩, Nat.le_refl _, Nat.le_refl _, id⟩

/-- Of the errors with which DECODE can end, only CONFIG_ASSERT is a fault (60_exceptions.md R602, R611). -/
theorem raise_rowEnd {e : Status} (he : e.noGap) (hr : R w.di) : State.RowEnd 0 w R (raise e w).state := by
  refine ⟨(raise_ends e w).1.outside, rfl, fun _ => rfl, fun hne => ?_, ⟨w.di, rfl, hr⟩, Nat.le_refl _, Nat.le_refl _, id⟩
  have hfault : e.isFault = false := by
    cases e
    case formatRuleGap => exact absurd rfl he
    case configAssert => exact absurd rfl hne
    all_goals rfl
  simp [raise, hfault]

theorem State.RowEnd.from {n : Nat} {w' : Work} {t : State} (hw : Work.Frame n w w') (h : State.RowEnd 0 w' w'.SamePrefixes t) :
    State.RowEnd n w w.SamePrefixes t where
  outside := SameOutside.trans hw.outside h.outside
  start := h.start.trans hw.start
  fmtDefs hne := (h.fmtDefs hne).trans hw.fmtDefs
  faultMark hne := (h.faultMark hne).trans hw.faultMark
  record := by
    obtain ⟨d, hd, hp, ho, ha⟩ := h.record
    exact ⟨d, hd, hp.trans hw.pfx, ho.trans hw.opszSeen, ha.trans hw.adszSeen⟩
  forward := Nat.le_trans hw.forward h.forward
  bound := Nat.le_trans h.bound hw.bound
  inside hp := hw.outside.srcLen ▸ h.inside (hw.outside.srcLen ▸ hw.inside hp)

end

theorem Flow.Bounded.rowEnd {n : Nat} {w : Work} {f : Flow} (h : f.Bounded n w) : State.RowEnd n w w.SamePrefixes f.state := by
  obtain ⟨hframe, hgap⟩ := h
  have hsame (w' : Work) : w'.SamePrefixes w'.di := ⟨rfl, rfl, rfl⟩
  cases f with
  | go w' => exact (go_rowEnd (hsame w')).from hframe
  | ended s =>
    obtain ⟨w', hw, ⟨e, he⟩ | hc⟩ := hframe
    · rw [← he] at hgap ⊢
      exact (raise_rowEnd (fun h => hgap (congrArg some h)) (hsame w')).from hw
    · rw [← hc]
      exact (complete_rowEnd (hsame w')).from hw

/-! The stages of a row. -/

section
variable {m n : Nat} {w : Work}

theorem Flow.Bounded.mono {f : Flow} (h : f.Bounded n w) (hnm : n ≤ m) : f.Bounded m w := ⟨h.frame.mono hnm, h.noGap⟩

theorem readByte_bounded {k : Byte → Work → Flow} (hk : ∀ b w', (k b w').Bounded m w') : (readByte w k).Bounded (1 + m) w := by
  refine ⟨readByte_frame fun b w' => (hk b w').frame, ?_⟩
  by_cases h : w.ctx.pos < w.ctx.srcLen
  · rw [readByte_of_lt h]
    exact (hk _ _).noGap
  · rw [readByte_of_le (Nat.not_lt.mp h)]
    exact raise_noGap (by decide) w

/-- A stage behind the read and the latch of an opcode byte, which leaves a value in OPB. -/
theorem readLatched_bounded (g : Byte → Byte) {k : Byte → Work → Flow}
    (hk : ∀ b w', w'.di.opb.isSome = true → (k b w').Bounded m w') :
    (readByte w fun b w => k b (latchOpcode (g b) w)).Bounded (1 + m) w :=
  readByte_bounded fun b w' =>
    have h := hk b (latchOpcode (g b) w') rfl
    ⟨Flow.Frame.write (latchOpcode_frame (g b) w') h.frame, h.noGap⟩

theorem lookupFailed_bounded (key : Nat) {e : Status} (he : e.noGap) (w : Work) : (lookupFailed key e w).Bounded 0 w :=
  ⟨lookupFailed_frame key e w, raise_noGap he _⟩

theorem select_bounded (ref : DescRef) (key : Nat) (d : Desc) (w : Work) : (Flow.go (select ref key d w)).Bounded 0 w :=
  ⟨select_frame ref key d w, go_noGap _⟩

theorem resolveGroup_bounded (tg : Nat → Option Desc) (key : Nat) (w : Work) : (resolveGroup tg key w).Bounded 0 w := by
  unfold resolveGroup
  split
  · split
    · exact select_bounded _ _ _ w
    · exact lookupFailed_bounded _ (by decide) w
  · exact lookupFailed_bounded _ (by decide) w

/-- A well-formed descriptor has at most one immediate-class operand (W2). -/
theorem operandStage_frame_of_wf {d : Desc} (hd : d.wf = true) (w : Work) : Flow.Frame 4 w (operandStage d w) := by
  have himm := (Desc.laws_of_wf hd).immediates
  rw [operandStage, extractTags_operands]
  exact ((extractTags_frame d d.operands w).andThen (m := 0) complete_frame).mono (by omega)

theorem operandStage_noGap (d : Desc) (hopb : w.di.opb.isSome = true) : (operandStage d w).NoGap := by
  rw [operandStage, extractTags_operands]
  exact (extractTags_leads (by decide) (.inl (by decide)) (fun _ => id) hopb).noGap_andThen fun w' _ => complete_noGap w'

/-- A lookup, the ModR/M stage and what follows it. -/
theorem lookedUp_bounded (ref : DescRef) (key : Nat) (p : Desc) {k : Work → Flow} (hopb : w.di.opb.isSome = true)
    (hframe : ∀ w', Flow.Frame m w' (k w')) (hgap : ∀ w', w'.di.opb.isSome = true → (k w').NoGap) :
    ((modRmStage p (select ref key p w)).andThen k).Bounded (6 + m) w where
  frame := Flow.Frame.write (select_frame ref key p w) ((modRmStage_frame p _).andThen hframe)
  noGap := (modRmStage_leads (by decide) (.inl (by decide))).noGap_andThen fun w' hw => hgap w' (by rw [hw.opb]; exact hopb)

theorem finishRow_bounded (ref : DescRef) (key : Nat) {d : Desc} (hd : d.wf = true) (hopb : w.di.opb.isSome = true) :
    (finishRow ref key d w).Bounded 10 w :=
  lookedUp_bounded ref key d hopb (operandStage_frame_of_wf hd) fun _ => operandStage_noGap d

theorem finishMember_bounded (ref : DescRef) (key : Nat) (p : Desc) (digit : Nat) {d : Desc} (hd : d.wf = true)
    (hopb : w.di.opb.isSome = true) : (finishMember ref key p digit d w).Bounded 10 w :=
  lookedUp_bounded ref key p hopb
    (fun w' => Flow.Frame.write (select_frame _ _ d w') (operandStage_frame_of_wf hd _))
    fun w' h => operandStage_noGap d (w := select _ _ d w') h

theorem dispatch_bounded (tg : Nat → Option Desc) (ref : DescRef) (key : Nat) (p : Desc) (hopb : w.di.opb.isSome = true) :
    ((modRmStage p (select ref key p w)).andThen (resolveGroup tg key)).Bounded 10 w :=
  (lookedUp_bounded ref key p hopb (fun w' => (resolveGroup_bounded tg key w').frame)
    fun w' _ => (resolveGroup_bounded tg key w').noGap).mono (by decide)

theorem opcode1_bounded (b : Byte) (s : State) {k : Work → Flow} (hk : ∀ w, w.di.opb.isSome = true → (k w).Bounded m w) :
    (opcode1 b s k).Bounded (1 + m) (enter s) :=
  readLatched_bounded (fun _ => b) fun _ => hk

/-- The escape, and a stage behind the second opcode byte. -/
theorem escaped_bounded (s : State) (g : Byte → Byte) {k : Byte → Work → Flow}
    (hk : ∀ b w, w.di.opb.isSome = true → (k b w).Bounded m w) :
    (readByte (enter s) fun _ w => readByte (latchOpcode 0x0F w) fun b w => k b (latchOpcode (g b) w)).Bounded (1 + (1 + m))
      (enter s) :=
  readLatched_bounded (fun _ => 0x0F) (k := fun _ w => readByte w fun b w => k b (latchOpcode (g b) w)) fun _ _ _ =>
    readLatched_bounded g hk

theorem opcode2_bounded (b : Byte) (s : State) {k : Work → Flow} (hk : ∀ w, w.di.opb.isSome = true → (k w).Bounded m w) :
    (opcode2 b s k).Bounded (1 + (1 + m)) (enter s) :=
  escaped_bounded s (fun _ => b) fun _ => hk

/-- The lookup of the second opcode byte by the escape's row (40_decode_pipeline.md R169, R171). -/
def secondLookup (t2 : Nat → Option Desc) (b : Byte) (w : Work) : Flow :=
  match t2 b.toNat with
  | some d => .go (select (.t2 b) (0x0F00 + b.toNat) d w)
  | none => lookupFailed (0x0F00 + b.toNat) .unknownOpcode w

theorem escapeRow_eq (t2 : Nat → Option Desc) (s : State) :
    escapeRow t2 s = .next (readByte (enter s) fun _ w => readByte (latchOpcode 0x0F w) fun b w =>
      secondLookup t2 b (latchOpcode b w)).state := rfl

theorem secondLookup_bounded (t2 : Nat → Option Desc) (b : Byte) (w : Work) : (secondLookup t2 b w).Bounded 0 w := by
  unfold secondLookup
  split
  · exact select_bounded _ _ _ w
  · exact lookupFailed_bounded _ (by decide) w

end

/-- Every row that is none of the prefixes is a stage that reads at most twelve bytes from the entry of DECODE (R199). -/
theorem exec_bounded {i : Instr} (hi : i ∉ prefixRows) (s : State) :
    ∃ f : Flow, exec i s = .next f.state ∧ f.Bounded 12 (enter s) := by
  have hform (f : Flow) {n : Nat} (h : exec i s = .next f.state) (hf : f.Bounded n (enter s)) (hn : n ≤ 12) :
      ∃ f : Flow, exec i s = .next f.state ∧ f.Bounded 12 (enter s) := ⟨f, h, hf.mono hn⟩
  cases exec_form i with
  | prefixRow bit hbit h => exact absurd (mem_prefixRows_of_exec hbit h) hi
  | escape h =>
    exact hform _ ((congrFun h s).trans (escapeRow_eq _ s))
      (escaped_bounded s id fun b w _ => secondLookup_bounded _ b w) (by decide)
  | oneByteDispatch b p hp h =>
    exact hform _ (congrFun h s) (opcode1_bounded b s fun _ => dispatch_bounded _ _ _ p) (by decide)
  | twoByteDispatch b p hp h =>
    exact hform _ (congrFun h s) (opcode2_bounded b s fun _ => dispatch_bounded _ _ _ p) (by decide)
  | oneByte b d hd hg h => exact hform _ (congrFun h s) (opcode1_bounded b s fun _ => finishRow_bounded _ _ hd) (by decide)
  | twoByte b d hd hg h => exact hform _ (congrFun h s) (opcode2_bounded b s fun _ => finishRow_bounded _ _ hd) (by decide)
  | hardCoded b d hd hg h => exact hform _ (congrFun h s) (opcode1_bounded b s fun _ => finishRow_bounded _ _ hd) (by decide)
  | oneByteMember b p n d hp hd hg h =>
    exact hform _ (congrFun h s) (opcode1_bounded b s fun _ => finishMember_bounded _ _ p n hd) (by decide)
  | twoByteMember b p n d hp hd hg h =>
    exact hform _ (congrFun h s) (opcode2_bounded b s fun _ => finishMember_bounded _ _ p n hd) (by decide)
  | oneByteReg b d hd hg h =>
    exact hform _ (congrFun h s)
      (readLatched_bounded (fun o => regByte b (lowField o)) fun _ _ => finishRow_bounded _ _ hd) (by decide)
  | twoByteReg b d hd hg h =>
    exact hform _ (congrFun h s)
      (escaped_bounded s (fun o => regByte b (lowField o)) fun _ _ => finishRow_bounded _ _ hd) (by decide)

/-- The record but for the prefixes and the seen flags is the one that the DECODE entered with. -/
def Work.SameRest (w : Work) (d : Di) : Prop :=
  { d with pfx := 0, opszSeen := false, adszSeen := false } = { w.di with pfx := 0, opszSeen := false, adszSeen := false }

/-- The row of one of the prefixes consumes its byte and records it, or finds the source at its end (R164 to R166). -/
theorem prefixRow_rowEnd (bit : Nat) (s : State) :
    ∃ t, prefixRow bit s = .next t ∧ State.RowEnd 1 (enter s) (enter s).SameRest t := by
  refine ⟨_, rfl, ?_⟩
  by_cases h : (enter s).ctx.pos < (enter s).ctx.srcLen
  · rw [readByte_of_lt h]
    exact ⟨by constructor <;> rfl, rfl, fun _ => rfl, fun _ => rfl, ⟨_, rfl, rfl⟩, Nat.le_succ _, Nat.le_refl _, fun _ => h⟩
  · rw [readByte_of_le (Nat.not_lt.mp h)]
    have hend : State.RowEnd 0 (enter s) (enter s).SameRest (raise .endOfStream (enter s)).state := raise_rowEnd (by decide) rfl
    exact { hend with bound := Nat.le_succ_of_le hend.bound }

/-- How every row ends, on every path. -/
theorem exec_rowEnd {i : Instr} {s t : State} (h : exec i s = .next t) :
    State.RowEnd (if i ∈ prefixRows then 1 else 12) (enter s)
      (if i ∈ prefixRows then (enter s).SameRest else (enter s).SamePrefixes) t := by
  by_cases hi : i ∈ prefixRows
  · obtain ⟨bit, hbit⟩ := exec_of_mem_prefixRows hi
    obtain ⟨u, hu, hend⟩ := prefixRow_rowEnd bit s
    rw [hbit, hu] at h
    rw [if_pos hi, if_pos hi]
    exact Host.Outcome.next.inj h ▸ hend
  · obtain ⟨f, hf, hbounded⟩ := exec_bounded hi s
    rw [hf] at h
    rw [if_neg hi, if_neg hi]
    exact Host.Outcome.next.inj h ▸ hbounded.rowEnd

theorem enter_outside (s : State) : SameOutside s (enter s).ctx := by constructor <;> simp

/-! The statements of 10_state.md and 40_decode_pipeline.md about every row. -/

/-- Settles O30: every stage of a row keeps within its frame, and no row ends in a failure of FORMAT's, so that only CONFIG_ASSERT can set
the fault mark. -/
theorem rowFrame : Obligations.RowFrame := by
  intro i s t h
  obtain ⟨hout, hstart, hdefs, hmark, ⟨d, hd, hrecord⟩, -, -, -⟩ := exec_rowEnd h
  have houtside := SameOutside.trans (enter_outside s) hout
  rw [enter_fmtDefs] at hdefs
  rw [enter_faultMark] at hmark
  refine ⟨houtside, fun a => by rw [houtside.src], hstart, hdefs, hmark, d, hd, fun hi => ?_, fun hi => ?_⟩
  · rwa [if_neg hi] at hrecord
  · rwa [if_pos hi] at hrecord

/-- Settles O31: the opcode bytes are at most two, the ModR/M stage reads at most six bytes, and the one immediate-class operand that W2
allows at most four. -/
theorem rowsReadAtMostTwelve : Obligations.RowsReadAtMostTwelve := by
  intro i s t h
  have hend := exec_rowEnd h
  refine ⟨?_, ?_, ?_⟩
  · simpa using hend.forward
  · simpa using hend.bound
  · simpa using hend.inside

end Sys2Proof.Machine

/-! SUPPORT. The value that a read of the cursor gives, and what a change of a source byte does. -/

namespace Sys2Proof.Machine

/-- The little-endian value is the sum of the bytes by their places (20_memory.md R82). -/
theorem Memory.readLE_eq_sum (m : Memory) (a n : Nat) :
    m.readLE a n = ((List.range n).map fun j => (m.read (a + j)).toNat * 256 ^ j).sum := by
  induction n generalizing a with
  | zero => rfl
  | succ n ih =>
    have hplace (j : Nat) : (m.read (a + (j + 1))).toNat * 256 ^ (j + 1) = 256 * ((m.read (a + 1 + j)).toNat * 256 ^ j) := by
      rw [show a + (j + 1) = a + 1 + j by omega]; ring
    rw [readLE, ih, List.range_succ_eq_map, List.map_cons, List.map_map, List.sum_cons, ← List.sum_map_mul_left]
    simp [Function.comp_def, hplace]

/-- The widths of 20_memory.md R83, as the statements list them. -/
theorem mem_readWidths {n : Nat} : n ∈ [1, 2, 4] ↔ n = 1 ∨ n = 2 ∨ n = 4 := by simp

/-- An error of the DECODE's own (60_exceptions.md R601) ends it and sets no mark. -/
theorem raise_of_not_fault {e : Status} (he : e.isFault = false) (w : Work) :
    raise e w = .ended { w.ctx with di := some w.di, status := some e } := by
  rw [raise, he, Bool.or_false]

/-- A status of kind fault also sets the fault mark (R602, R611). -/
theorem raise_of_fault {e : Status} (he : e.isFault = true) (w : Work) :
    raise e w = .ended { w.ctx with di := some w.di, status := some e, faultMark := true } := by
  rw [raise, he, Bool.or_true]

/-- A change of a byte of the source writes that byte and nothing else (20_memory.md R97). -/
theorem sourceByteOp_of_lt {a : Nat} {s : State} (ha : a < s.srcLen) (b : Byte) :
    sourceByteOp a b s = { s with src := s.src.write a b } := by
  rw [sourceByteOp, if_pos ha]

/-! The statements of 20_memory.md. -/

/-- Settles O35: a supplied read hands on the bytes' little-endian value, which is the sum by places; a short one raises END_OF_STREAM,
which sets no mark. -/
theorem cursorRead : Obligations.CursorRead := by
  intro n w k hn
  have hwidth := mem_readWidths.mp hn
  refine ⟨fun hsupply => ?_, fun hshort => ?_⟩
  · rw [readN_supplied hwidth (by omega), Memory.readLE_eq_sum]
  · rw [readN_short hwidth (by omega), raise_of_not_fault rfl]

/-- Settles O36: the cursor checks the width before anything else, and CONFIG_ASSERT is of kind fault. -/
theorem cursorOtherWidth : Obligations.CursorOtherWidth := by
  intro n w k hn
  rw [readN_width (mt mem_readWidths.mpr hn), raise_of_fault rfl]

/-- Settles O45: the request is one write to the source's memory, whose canonical form makes every byte read back as written or as
before. -/
theorem sourceChange : Obligations.SourceChange := by
  intro a b s t hwf ha h
  have ht : { s with src := s.src.write a b } = t := (sourceByteOp_of_lt ha b).symm.trans (Host.Outcome.next.inj h)
  subst ht
  exact ⟨Memory.read_write_same hwf a b, fun x hx => Memory.read_write_other hwf hx b, rfl⟩

end Sys2Proof.Machine

/-! SUPPORT. The opcode maps as one function of the opcode bytes and the register field after them. A row stands at its own opcode bytes
and at no others, and what the resolver selects is the row that stands there. -/

namespace Sys2Proof

open Sys2Proof.Claims

/-! The rows that the maps name. -/

/-- The row that a map's entry names under the register field `r` of a ModR/M byte (30_encoding.md R117, R174, R175). -/
def Entry.pick (r : BitVec 3) : Entry → Option Instr
  | .null => none
  | .row i => some i
  | .group key i => some ((tgRow (key * 256 + r.toNat)).getD i)

/-- The rows that an entry names by the register field have a ModR/M byte. -/
def Entry.addressed : Entry → Bool
  | .group key i => i.shape.modRm && decide (∀ r : BitVec 3, (tgRow (key * 256 + r.toNat)).all (·.shape.modRm))
  | _ => true

/-- The row at opcode bytes, the escape before the second of two (30_encoding.md R128; 40_decode_pipeline.md R168 to R170). -/
def opcodeRow (opszSeen : Bool) : List Byte → BitVec 3 → Option Instr
  | [b], r => if b = 0x90 ∧ opszSeen = true then some .xchg66_90 else (t1Entry b.toNat).pick r
  | [e, b], r => if e = 0x0F then (t2Entry b.toNat).pick r else none
  | _, _ => none

/-- The opcode bytes of a row with the register `r`. -/
def Instr.opcodeAt (i : Instr) (r : BitVec 3) : List Byte := opcodeBytes i.shape.opcode (if i.shape.lowReg then r else 0)

/-- The register part of a row whose last opcode byte is `b` and whose ModR/M byte, if it has one, holds the field `r`. -/
def Instr.regPart (i : Instr) (b : Byte) (r : BitVec 3) : BitVec 3 :=
  if i.shape.modRm then r else if i.shape.lowReg then lowField b else 0

/-- The row and its register part are well-formed. The escape's row is left out: its second byte decides, and it has no register. -/
def Instr.regRowWf (opszSeen : Bool) (i : Instr) (r : BitVec 3) : Bool :=
  i != .escape0F && Insn.regWf ⟨i, r, Rm.absent, 0⟩ && Insn.rowWf ⟨.long, .long, opszSeen, false⟩ ⟨i, r, Rm.absent, 0⟩

/-- The opcode bytes are the row's own, and it is well-formed with the register part that they and the register field give it. -/
def Instr.standsAt (opszSeen : Bool) (op : List Byte) (r : BitVec 3) (i : Instr) : Bool :=
  op == i.opcodeAt (i.regPart (op.getLastD 0) r) && i.regRowWf opszSeen (i.regPart (op.getLastD 0) r)

/-- Every row but the escape's is well-formed or not by its register and by whether 66 was seen. -/
theorem rowWf_of_ne_escape {i : Instr} (h : i ≠ .escape0F) (c : SizeCtx) (r : BitVec 3) (m : Rm) (v : Word) :
    Insn.rowWf c ⟨i, r, m, v⟩ = Insn.rowWf ⟨.long, .long, c.opszSeen, false⟩ ⟨i, r, Rm.absent, 0⟩ := by
  cases i
  case escape0F => exact absurd rfl h
  all_goals rfl

theorem regRowWf_iff {x : Insn} (h : x.row ≠ .escape0F) (c : SizeCtx) :
    x.row.regRowWf c.opszSeen x.reg = true ↔ x.regWf = true ∧ x.rowWf c = true := by
  obtain ⟨i, r, m, v⟩ := x
  rw [rowWf_of_ne_escape h]
  simp only [Instr.regRowWf, Insn.regWf, Bool.and_eq_true, bne_iff_ne, ne_eq, h, not_false_eq_true, true_and]

/-- Each row stands at its own opcode bytes, which hold its register where no ModR/M byte does. -/
theorem opcodeRow_opcodeAt (i : Instr) : i ∉ prefixRows → ∀ (opszSeen : Bool) (r : BitVec 3), i.regRowWf opszSeen r = true →
    opcodeRow opszSeen (i.opcodeAt r) r = some i ∧ i.regPart ((i.opcodeAt r).getLastD 0) r = r := by
  cases i <;> decide +kernel

/-- The rows that an entry names stand at the opcode bytes `op`. -/
def Entry.standsAt (opszSeen : Bool) (op : List Byte) : Entry → Bool
  | .null => true
  | .row i => decide (∀ r : BitVec 3, i.standsAt opszSeen op r)
  | .group key i => decide (∀ r : BitVec 3, ((tgRow (key * 256 + r.toNat)).getD i).standsAt opszSeen op r)

theorem standsAt_of_pick {opszSeen : Bool} {op : List Byte} {e : Entry} (he : e.standsAt opszSeen op = true) {r : BitVec 3}
    {i : Instr} (h : e.pick r = some i) : i.standsAt opszSeen op r = true := by
  cases e with
  | null => cases h
  | row j =>
    cases h
    exact of_decide_eq_true he r
  | group key j =>
    cases h
    exact of_decide_eq_true he r

theorem t1Entry_standsAt : ∀ (b : Byte) (opszSeen : Bool), ¬(b = 0x90 ∧ opszSeen = true) →
    (t1Entry b.toNat).standsAt opszSeen [b] = true := by decide +kernel

theorem t2Entry_standsAt : ∀ (b : Byte) (opszSeen : Bool), (t2Entry b.toNat).standsAt opszSeen [0x0F, b] = true := by
  decide +kernel

/-- The three kinds of opcode: 90 after 66 (R168), one byte, and two bytes (R169, R170). -/
theorem opcodeRow_cases {opszSeen : Bool} {op : List Byte} {r : BitVec 3} {i : Instr} (h : opcodeRow opszSeen op r = some i) :
    (op = [0x90] ∧ opszSeen = true ∧ i = .xchg66_90)
      ∨ (∃ b, op = [b] ∧ ¬(b = 0x90 ∧ opszSeen = true) ∧ (t1Entry b.toNat).pick r = some i)
      ∨ ∃ b, op = [0x0F, b] ∧ (t2Entry b.toNat).pick r = some i := by
  match op with
  | [] => cases h
  | [b] =>
    by_cases h90 : b = 0x90 ∧ opszSeen = true
    · rw [opcodeRow, if_pos h90] at h
      exact .inl ⟨by rw [h90.1], h90.2, (Option.some.inj h).symm⟩
    · rw [opcodeRow, if_neg h90] at h
      exact .inr (.inl ⟨b, rfl, h90, h⟩)
  | [e, b] =>
    by_cases he : e = 0x0F
    · rw [opcodeRow, if_pos he] at h
      exact .inr (.inr ⟨b, by rw [he], h⟩)
    · rw [opcodeRow, if_neg he] at h
      cases h
  | _ :: _ :: _ :: _ => cases h

/-- A row stands only at its own opcode bytes. -/
theorem standsAt_of_opcodeRow {opszSeen : Bool} {op : List Byte} {r : BitVec 3} {i : Instr}
    (h : opcodeRow opszSeen op r = some i) : i.standsAt opszSeen op r = true := by
  obtain ⟨rfl, rfl, rfl⟩ | ⟨b, rfl, h90, hpick⟩ | ⟨b, rfl, hpick⟩ := opcodeRow_cases h
  · revert r
    decide
  · exact standsAt_of_pick (t1Entry_standsAt b opszSeen h90) hpick
  · exact standsAt_of_pick (t2Entry_standsAt b opszSeen) hpick

theorem t1Entry_addressed : ∀ b : Byte, (t1Entry b.toNat).addressed = true := by decide +kernel

theorem t2Entry_addressed : ∀ b : Byte, (t2Entry b.toNat).addressed = true := by decide +kernel

/-! What the resolver selects. -/

/-- Where the row has a ModR/M byte, the next byte holds the register field `r`. -/
def Instr.FieldIs (i : Instr) (bs : List Byte) (r : BitVec 3) : Prop :=
  i.shape.modRm = true → ∃ m tail, bs = m :: tail ∧ midField m = r

theorem modRm_of_addressed {key : Nat} {i : Instr} (h : (Entry.group key i).addressed = true) :
    i.shape.modRm = true ∧ ∀ (r : BitVec 3) (j : Instr), tgRow (key * 256 + r.toNat) = some j → j.shape.modRm = true := by
  obtain ⟨hi, htg⟩ := Bool.and_eq_true_iff.mp h
  refine ⟨hi, fun r j hj => ?_⟩
  simpa [hj] using of_decide_eq_true htg r

/-- An entry selects the row that it names under the register field. -/
theorem selectEntry_of_pick {e : Entry} (he : e.addressed = true) {r : BitVec 3} {i : Instr} (h : e.pick r = some i)
    {rest : List Byte} (hr : i.FieldIs rest r) (via : List Instr) (b : Byte) (absent : Selected) :
    ∃ via', selectEntry via b rest absent e = .row via' i b rest := by
  cases e with
  | null => cases h
  | row j =>
    cases h
    exact ⟨via, rfl⟩
  | group key j =>
    obtain ⟨hj, htg⟩ := modRm_of_addressed he
    cases h
    cases hd : tgRow (key * 256 + r.toNat) with
    | none =>
      obtain ⟨m, tail, rfl, rfl⟩ := hr (by simpa [hd] using hj)
      exact ⟨via, by simp [selectEntry, hd]⟩
    | some k =>
      obtain ⟨m, tail, rfl, rfl⟩ := hr (by simpa [hd] using htg r _ hd)
      exact ⟨via ++ [j], by simp [selectEntry, hd]⟩

/-- An entry selects no other row. -/
theorem pick_of_selectEntry {e : Entry} (he : e.addressed = true) (hnull : e ≠ .null) {via via' : List Instr} {b b' : Byte}
    {rest rest' : List Byte} {absent : Selected} {i : Instr} (h : selectEntry via b rest absent e = .row via' i b' rest')
    {r : BitVec 3} (hr : i.FieldIs rest' r) : b' = b ∧ rest' = rest ∧ e.pick r = some i := by
  cases e with
  | null => exact absurd rfl hnull
  | row j =>
    cases h
    exact ⟨rfl, rfl, rfl⟩
  | group key j =>
    obtain ⟨hj, htg⟩ := modRm_of_addressed he
    cases rest with
    | nil =>
      cases h
      obtain ⟨m, tail, hrest, -⟩ := hr hj
      cases hrest
    | cons m tail =>
      cases hd : tgRow (key * 256 + (midField m).toNat) with
      | none =>
        simp only [selectEntry, hd] at h
        cases h
        obtain ⟨m', tail', hrest, rfl⟩ := hr hj
        cases hrest
        exact ⟨rfl, rfl, by simp [Entry.pick, hd]⟩
      | some k =>
        simp only [selectEntry, hd] at h
        cases h
        obtain ⟨m', tail', hrest, rfl⟩ := hr (htg (midField m) _ hd)
        cases hrest
        exact ⟨rfl, rfl, by simp [Entry.pick, hd]⟩

theorem selectRow_xchg66 {c : SizeCtx} {b : Byte} (h90 : b = 0x90 ∧ c.opszSeen = true) (bs : List Byte) :
    selectRow c (b :: bs) = .row [] .xchg66_90 b bs := if_pos h90

theorem selectRow_t1 {c : SizeCtx} {b : Byte} (h90 : ¬(b = 0x90 ∧ c.opszSeen = true)) (h0F : b ≠ 0x0F) (bs : List Byte) :
    selectRow c (b :: bs) = selectEntry [] b bs (.unknownOpcode b bs) (t1Entry b.toNat) :=
  (if_neg h90).trans (if_neg h0F)

theorem selectRow_t2 (c : SizeCtx) (b : Byte) (bs : List Byte) :
    selectRow c (0x0F :: b :: bs)
      = selectEntry [.escape0F] b bs (.row [] .escape0F 0x0F (b :: bs)) (t2Entry b.toNat) := rfl

/-- The resolver selects the row that stands at the opcode bytes (40_decode_pipeline.md R167 to R175). -/
theorem selectRow_of_opcodeRow {c : SizeCtx} {op : List Byte} {r : BitVec 3} {i : Instr}
    (h : opcodeRow c.opszSeen op r = some i) {rest : List Byte} (hr : i.FieldIs rest r) :
    ∃ via, selectRow c (op ++ rest) = .row via i (op.getLastD 0) rest := by
  obtain ⟨rfl, h66, rfl⟩ | ⟨b, rfl, h90, hpick⟩ | ⟨b, rfl, hpick⟩ := opcodeRow_cases h
  · exact ⟨[], selectRow_xchg66 ⟨rfl, h66⟩ rest⟩
  · have h0F : b ≠ 0x0F := by
      rintro rfl
      cases hpick
    obtain ⟨via, hvia⟩ := selectEntry_of_pick (t1Entry_addressed b) hpick hr [] b (.unknownOpcode b rest)
    exact ⟨via, (selectRow_t1 h90 h0F rest).trans hvia⟩
  · obtain ⟨via, hvia⟩ := selectEntry_of_pick (t2Entry_addressed b) hpick hr [.escape0F] b (.row [] .escape0F 0x0F (b :: rest))
    exact ⟨via, (selectRow_t2 c b rest).trans hvia⟩

/-- What the resolver selects is the escape's row, before a second byte without a row (R171), or the row that stands at the opcode
bytes. -/
theorem opcodeRow_of_selectRow {c : SizeCtx} {bs rest : List Byte} {via : List Instr} {i : Instr} {b : Byte}
    (h : selectRow c bs = .row via i b rest) {r : BitVec 3} (hr : i.FieldIs rest r) :
    (i = .escape0F ∧ bs = 0x0F :: rest ∧ ∀ b2 ∈ rest.head?, t2Entry b2.toNat = .null)
      ∨ ∃ op, op.getLastD 0 = b ∧ bs = op ++ rest ∧ opcodeRow c.opszSeen op r = some i := by
  cases bs with
  | nil => cases h
  | cons b1 bs =>
    by_cases h90 : b1 = 0x90 ∧ c.opszSeen = true
    · rw [selectRow_xchg66 h90] at h
      cases h
      exact .inr ⟨[b], rfl, rfl, by rw [opcodeRow, if_pos h90]⟩
    by_cases h0F : b1 = 0x0F
    · subst h0F
      cases bs with
      | nil =>
        cases h
        exact .inl ⟨rfl, rfl, by simp⟩
      | cons b2 bs =>
        rw [selectRow_t2] at h
        by_cases hnull : t2Entry b2.toNat = .null
        · rw [hnull] at h
          cases h
          exact .inl ⟨rfl, rfl, by simpa using hnull⟩
        · obtain ⟨rfl, rfl, hpick⟩ := pick_of_selectEntry (t2Entry_addressed b2) hnull h hr
          exact .inr ⟨[0x0F, b], rfl, rfl, hpick⟩
    · rw [selectRow_t1 h90 h0F] at h
      by_cases hnull : t1Entry b1.toNat = .null
      · rw [hnull] at h
        cases h
      · obtain ⟨rfl, rfl, hpick⟩ := pick_of_selectEntry (t1Entry_addressed b1) hnull h hr
        exact .inr ⟨[b], rfl, rfl, by rw [opcodeRow, if_neg h90, hpick]⟩

end Sys2Proof

/-! SUPPORT. Each parser of the decoder and its encoder say the same: the parser reads a part and leaves the rest exactly where the part is
well-formed and the bytes are its encoding and the rest. -/

namespace Sys2Proof

/-! Little-endian values. -/

theorem byte_cons_eq_iff (b : Byte) (u v : Nat) : b.toNat + 256 * u = v ↔ BitVec.ofNat 8 v = b ∧ v / 256 = u := by
  have hb := b.isLt
  rw [← BitVec.toNat_inj, BitVec.toNat_ofNat]
  omega

/-- The value of n bytes is below 256^n, and the bytes are its own (20_memory.md R89). -/
theorem takeLE_eq_some_iff (n : Nat) (bs : List Byte) (v : Nat) (rest : List Byte) :
    takeLE n bs = some (v, rest) ↔ v < 256 ^ n ∧ bs = leBytes n v ++ rest := by
  induction n generalizing bs v with
  | zero =>
    rw [pow_zero, Nat.lt_one_iff, takeLE, leBytes, Option.some.injEq, Prod.mk.injEq, List.nil_append, eq_comm (a := 0)]
  | succ n ih =>
    cases bs with
    | nil => simp [takeLE, leBytes]
    | cons b bs =>
      have hstep : takeLE (n + 1) (b :: bs) = some (v, rest) ↔ ∃ u, takeLE n bs = some (u, rest) ∧ b.toNat + 256 * u = v := by
        rw [takeLE]
        cases takeLE n bs <;> simp [Prod.ext_iff, and_comm, eq_comm]
      rw [hstep, leBytes, List.cons_append, List.cons.injEq, pow_succ]
      constructor
      · rintro ⟨u, hu, hv⟩
        obtain ⟨hlt, hbs⟩ := (ih bs u).mp hu
        obtain ⟨hb, rfl⟩ := (byte_cons_eq_iff b u v).mp hv
        exact ⟨by omega, hb.symm, hbs⟩
      · rintro ⟨hlt, hb, hbs⟩
        exact ⟨v / 256, (ih bs _).mpr ⟨by omega, hbs⟩, (byte_cons_eq_iff b _ v).mpr ⟨hb.symm, rfl⟩⟩

/-- A read of at most four bytes, kept in 32 bits. -/
theorem takeLE_word_iff {n : Nat} (hn : n ≤ 4) (bs : List Byte) (w : Word) (rest : List Byte) :
    (∃ v, takeLE n bs = some (v, rest) ∧ BitVec.ofNat 32 v = w) ↔ w.toNat < 256 ^ n ∧ bs = leBytes n w.toNat ++ rest := by
  have hpow : 256 ^ n ≤ 2 ^ 32 := Nat.pow_le_pow_right (by decide : 0 < 256) hn
  constructor
  · rintro ⟨v, hv, rfl⟩
    obtain ⟨hlt, hbs⟩ := (takeLE_eq_some_iff n bs v rest).mp hv
    rw [BitVec.toNat_ofNat, Nat.mod_eq_of_lt (Nat.lt_of_lt_of_le hlt hpow)]
    exact ⟨hlt, hbs⟩
  · intro h
    exact ⟨w.toNat, (takeLE_eq_some_iff n bs _ rest).mpr h, BitVec.ofNat_toNat .. |>.trans (BitVec.setWidth_eq w)⟩

/-! The fields of a ModR/M or SIB byte (30_encoding.md R119, R120). -/

@[simp] theorem packFields_fields : ∀ b : Byte, packFields (topField b) (midField b) (lowField b) = b := by decide +kernel

@[simp] theorem topField_packFields : ∀ (t : BitVec 2) (m l : BitVec 3), topField (packFields t m l) = t := by decide +kernel

@[simp] theorem midField_packFields : ∀ (t : BitVec 2) (m l : BitVec 3), midField (packFields t m l) = m := by decide +kernel

@[simp] theorem lowField_packFields : ∀ (t : BitVec 2) (m l : BitVec 3), lowField (packFields t m l) = l := by decide +kernel

theorem eq_packFields_iff (b : Byte) (t : BitVec 2) (m l : BitVec 3) :
    b = packFields t m l ↔ topField b = t ∧ midField b = m ∧ lowField b = l := by
  constructor
  · rintro rfl
    simp
  · rintro ⟨rfl, rfl, rfl⟩
    simp

/-! The addressing form. -/

/-- A SIB byte where there is one (R111). -/
def takeSib (present : Bool) (bs : List Byte) : Option (Sib × List Byte) :=
  if present then
    match bs with
    | [] => none
    | x :: xs => some (⟨topField x, midField x, lowField x⟩, xs)
  else some (⟨0, 0, 0⟩, bs)

/-- The bytes of the SIB part. -/
def sibBytes (present : Bool) (s : Sib) : List Byte := if present then [packFields s.code s.index s.base] else []

theorem takeSib_eq_some_iff (present : Bool) (bs : List Byte) (s : Sib) (rest : List Byte) :
    takeSib present bs = some (s, rest) ↔ (present || s == ⟨0, 0, 0⟩) = true ∧ bs = sibBytes present s ++ rest := by
  cases present with
  | false =>
    simp only [takeSib, sibBytes, Bool.false_eq_true, if_false, Option.some.injEq, Prod.mk.injEq, Bool.false_or, beq_iff_eq,
      List.nil_append, eq_comm (b := s), eq_comm (b := rest)]
  | true =>
    obtain ⟨code, index, base⟩ := s
    cases bs with
    | nil => simp [takeSib, sibBytes]
    | cons x xs => simp [takeSib, sibBytes, eq_packFields_iff, and_assoc]

/-- The ModR/M byte is followed by the SIB part and the displacement. -/
theorem parseRm_cons (ad : SizeClass) (b : Byte) (bs : List Byte) :
    parseRm ad (b :: bs) = (takeSib (hasSib ad (topField b) (lowField b)) bs).bind fun p =>
      (takeLE (dispBytes ad (topField b) (lowField b) p.1.base) p.2).map fun q =>
        (midField b, ⟨topField b, lowField b, p.1, BitVec.ofNat 32 q.1⟩, q.2) := by
  simp only [parseRm, takeSib]
  cases hasSib ad (topField b) (lowField b) with
  | false =>
    simp only [Bool.false_eq_true, if_false, Option.bind_some]
    cases takeLE (dispBytes ad (topField b) (lowField b) 0) bs <;> rfl
  | true =>
    cases bs with
    | nil => rfl
    | cons x xs =>
      simp only [if_true, Option.bind_some]
      cases takeLE (dispBytes ad (topField b) (lowField b) (lowField x)) xs <;> rfl

theorem dispBytes_le (ad : SizeClass) (mod : BitVec 2) (rm base : BitVec 3) : dispBytes ad mod rm base ≤ 4 := by
  unfold dispBytes dispClass
  split
  · split_ifs <;> decide
  · split_ifs <;> decide
  · decide

theorem Rm.wf_iff (ad : SizeClass) (m : Rm) : m.wf ad = true ↔ (hasSib ad m.mod m.rm || m.sib == ⟨0, 0, 0⟩) = true
    ∧ m.disp.toNat < 256 ^ dispBytes ad m.mod m.rm m.sib.base := by
  rw [Rm.wf, Bool.and_eq_true, decide_eq_true_eq]

theorem encodeRm_eq (ad : SizeClass) (r : BitVec 3) (m : Rm) : encodeRm ad r m = packFields m.mod r m.rm ::
    (sibBytes (hasSib ad m.mod m.rm) m.sib ++ leBytes (dispBytes ad m.mod m.rm m.sib.base) m.disp.toNat) := rfl

/-- The parser of addressing forms reads exactly the well-formed ones. -/
theorem parseRm_eq_some_iff (ad : SizeClass) (bs : List Byte) (r : BitVec 3) (m : Rm) (rest : List Byte) :
    parseRm ad bs = some (r, m, rest) ↔ m.wf ad = true ∧ bs = encodeRm ad r m ++ rest := by
  obtain ⟨mod, rm, sib, disp⟩ := m
  cases bs with
  | nil => simp [parseRm, encodeRm]
  | cons b bs =>
    have hdisp (tail : List Byte) := takeLE_word_iff (dispBytes_le ad mod rm sib.base) tail disp rest
    have hsib (tail : List Byte) := takeSib_eq_some_iff (hasSib ad mod rm) bs sib tail
    rw [parseRm_cons, Rm.wf_iff, encodeRm_eq, List.cons_append, List.cons.injEq, eq_packFields_iff]
    constructor
    · intro h
      obtain ⟨⟨s, tail⟩, hs, h⟩ := Option.bind_eq_some_iff.mp h
      obtain ⟨⟨v, tail'⟩, hv, h⟩ := Option.map_eq_some_iff.mp h
      cases h
      obtain ⟨hwf, hbs⟩ := (hsib tail).mp hs
      obtain ⟨hlt, htail⟩ := (hdisp tail).mp ⟨v, hv, rfl⟩
      exact ⟨⟨hwf, hlt⟩, ⟨rfl, rfl, rfl⟩, by rw [hbs, htail, List.append_assoc]⟩
    · rintro ⟨⟨hwf, hlt⟩, ⟨rfl, rfl, rfl⟩, hbs⟩
      obtain ⟨v, hv, rfl⟩ := (hdisp _).mpr ⟨hlt, rfl⟩
      rw [(hsib _).mpr ⟨hwf, by rw [hbs, List.append_assoc]⟩]
      simp only [Option.bind_some, hv, Option.map_some]

/-! The immediate-class part. -/

/-- The bytes of the immediate-class part (R123). -/
def Insn.immBytes (c : SizeCtx) (x : Insn) : List Byte :=
  match x.row.shape.imm with
  | some k => leBytes (k.bytes c) x.imm.toNat
  | none => []

section
variable {c : SizeCtx} {x : Insn}

theorem immBytes_of_none (h : x.row.shape.imm = none) : x.immBytes c = [] := by rw [Insn.immBytes, h]

theorem immBytes_of_some {k : ImmKind} (h : x.row.shape.imm = some k) : x.immBytes c = leBytes (k.bytes c) x.imm.toNat := by
  rw [Insn.immBytes, h]

theorem immWf_iff_of_none (h : x.row.shape.imm = none) : x.immWf c = true ↔ x.imm = 0 := by rw [Insn.immWf, h, beq_iff_eq]

theorem immWf_iff_of_some {k : ImmKind} (h : x.row.shape.imm = some k) :
    x.immWf c = true ↔ x.imm.toNat < 256 ^ k.bytes c := by
  rw [Insn.immWf, h, decide_eq_true_eq]

end

/-- The defaults that a context of the block can have (10_state.md R51). -/
structure SizeCtx.Legal (c : SizeCtx) : Prop where
  defOp : c.defOp = .word ∨ c.defOp = .long
  defAd : c.defAd = .word ∨ c.defAd = .long

theorem ImmKind.bytes_le {c : SizeCtx} (hc : c.Legal) (k : ImmKind) : k.bytes c ≤ 4 := by
  obtain ⟨defOp, defAd, opszSeen, adszSeen⟩ := c
  obtain ⟨rfl | rfl, rfl | rfl⟩ := hc <;> cases opszSeen <;> cases adszSeen <;> cases k <;> decide

/-- The parser of the immediate-class part fills it in, and reads exactly the well-formed ones. -/
theorem parseImm_eq_some_iff {c : SizeCtx} (hc : c.Legal) (i : Instr) (r : BitVec 3) (m : Rm) (bs rest : List Byte) (x : Insn) :
    parseImm c ⟨i, r, m, 0⟩ bs i.shape.imm = some (x, rest)
      ↔ (x.row = i ∧ x.reg = r ∧ x.rm = m) ∧ x.immWf c = true ∧ bs = x.immBytes c ++ rest := by
  obtain ⟨j, r', m', v⟩ := x
  cases hk : i.shape.imm with
  | none =>
    constructor
    · intro h
      cases h
      exact ⟨⟨rfl, rfl, rfl⟩, (immWf_iff_of_none hk).mpr rfl, by rw [immBytes_of_none hk, List.nil_append]⟩
    · rintro ⟨⟨rfl, rfl, rfl⟩, hwf, hbs⟩
      obtain rfl : v = 0 := (immWf_iff_of_none hk).mp hwf
      rw [hbs, immBytes_of_none hk, List.nil_append, parseImm]
  | some k =>
    have himm := takeLE_word_iff (ImmKind.bytes_le hc k) bs v rest
    constructor
    · intro h
      rw [parseImm] at h
      split at h
      · rename_i u tail hu
        cases h
        obtain ⟨hlt, hbs⟩ := himm.mp ⟨u, hu, rfl⟩
        exact ⟨⟨rfl, rfl, rfl⟩, (immWf_iff_of_some hk).mpr hlt, by rw [immBytes_of_some hk, hbs]⟩
      · cases h
    · rintro ⟨⟨rfl, rfl, rfl⟩, hwf, hbs⟩
      obtain ⟨u, hu, rfl⟩ := himm.mpr ⟨(immWf_iff_of_some hk).mp hwf, by rw [hbs, immBytes_of_some hk]⟩
      rw [parseImm, hu]

/-! All the parts behind the opcode. -/

/-- The bytes of an instruction behind its opcode. -/
def Insn.operandBytes (c : SizeCtx) (x : Insn) : List Byte :=
  (if x.row.shape.modRm then encodeRm c.adsize x.reg x.rm else []) ++ x.immBytes c

section
variable {c : SizeCtx} {x : Insn}

theorem operandBytes_of_modRm (h : x.row.shape.modRm = true) :
    x.operandBytes c = encodeRm c.adsize x.reg x.rm ++ x.immBytes c := by
  rw [Insn.operandBytes, if_pos h]

theorem operandBytes_of_not_modRm (h : ¬x.row.shape.modRm = true) : x.operandBytes c = x.immBytes c := by
  rw [Insn.operandBytes, if_neg h, List.nil_append]

theorem rmWf_iff_of_modRm (h : x.row.shape.modRm = true) : x.rmWf c = true ↔ x.rm.wf c.adsize = true := by
  rw [Insn.rmWf, if_pos h]

theorem rmWf_iff_of_not_modRm (h : ¬x.row.shape.modRm = true) : x.rmWf c = true ↔ x.rm = Rm.absent := by
  rw [Insn.rmWf, if_neg h, beq_iff_eq]

end

/-- The parts of a row behind the opcode byte `b` are read exactly where they are well-formed. The register is the ModR/M byte's, or the
one that the opcode byte gives. -/
theorem parseParts_eq_some_iff {c : SizeCtx} (hc : c.Legal) (i : Instr) (b : Byte) (bs rest : List Byte) (x : Insn) :
    parseParts c i b bs = some (x, rest)
      ↔ (x.row = i ∧ i.regPart b x.reg = x.reg) ∧ (x.rmWf c = true ∧ x.immWf c = true) ∧ bs = x.operandBytes c ++ rest := by
  have himm (r : BitVec 3) (m : Rm) (tail : List Byte) := parseImm_eq_some_iff hc i r m tail rest x
  by_cases hm : i.shape.modRm = true
  · rw [parseParts, if_pos hm, Instr.regPart, if_pos hm]
    constructor
    · intro h
      split at h
      · rename_i r m tail hrm
        obtain ⟨⟨rfl, rfl, rfl⟩, hwf, htail⟩ := (himm r m tail).mp h
        obtain ⟨hrmwf, hbs⟩ := (parseRm_eq_some_iff ..).mp hrm
        exact ⟨⟨rfl, rfl⟩, ⟨(rmWf_iff_of_modRm hm).mpr hrmwf, hwf⟩,
          by rw [hbs, htail, operandBytes_of_modRm hm, List.append_assoc]⟩
      · cases h
    · rintro ⟨⟨rfl, -⟩, ⟨hrmwf, hwf⟩, hbs⟩
      rw [operandBytes_of_modRm hm, List.append_assoc] at hbs
      rw [(parseRm_eq_some_iff ..).mpr ⟨(rmWf_iff_of_modRm hm).mp hrmwf, hbs⟩]
      exact (himm _ _ _).mpr ⟨⟨rfl, rfl, rfl⟩, hwf, rfl⟩
  · rw [parseParts, if_neg hm, himm, Instr.regPart, if_neg hm]
    constructor
    · rintro ⟨⟨rfl, hreg, hrm⟩, hwf, hbs⟩
      exact ⟨⟨rfl, hreg.symm⟩, ⟨(rmWf_iff_of_not_modRm hm).mpr hrm, hwf⟩, by rw [hbs, operandBytes_of_not_modRm hm]⟩
    · rintro ⟨⟨rfl, hreg⟩, ⟨hrm, hwf⟩, hbs⟩
      exact ⟨⟨rfl, hreg.symm, (rmWf_iff_of_not_modRm hm).mp hrm⟩, hwf, by rw [hbs, operandBytes_of_not_modRm hm]⟩

end Sys2Proof

/-! SUPPORT. The decoder and the encoder agree: a well-formed instruction is read back from its encoding, and what is read is well-formed
and was encoded so. -/

namespace Sys2Proof

open Sys2Proof.Claims

/-! The scan of the prefixes. -/

theorem opcode_of_prefixOf : ∀ b : Byte, ∀ p ∈ prefixOf b, p.shape.opcode = [b] := by decide +kernel

theorem map_prefixOf_opcode : ∀ p ∈ prefixRows, p.shape.opcode.map prefixOf = [some p] := by decide

theorem prefixOf_of_mem_prefixRows {p : Instr} (h : p ∈ prefixRows) : ∃ b, p.shape.opcode = [b] ∧ prefixOf b = some p :=
  List.map_eq_singleton_iff.mp (map_prefixOf_opcode p h)

/-- The scan reads the rows of the prefixes from their bytes and stops at the first byte that is none (40_decode_pipeline.md R164). -/
theorem scanPrefixes_append {ps : List Instr} (hps : ∀ p ∈ ps, p ∈ prefixRows) {bs : List Byte}
    (hbs : ∀ b ∈ bs.head?, prefixOf b = none) : scanPrefixes ((ps.flatMap fun p => p.shape.opcode) ++ bs) = (ps, bs) := by
  induction ps with
  | nil =>
    cases bs with
    | nil => rfl
    | cons b bs => simp [scanPrefixes, hbs b rfl]
  | cons p ps ih =>
    obtain ⟨b, hop, hb⟩ := prefixOf_of_mem_prefixRows (hps p List.mem_cons_self)
    have htail := ih fun q hq => hps q (List.mem_cons_of_mem p hq)
    simp only [List.flatMap_cons, hop, List.cons_append, List.nil_append, scanPrefixes, hb, htail]

/-- The scan loses no byte. -/
theorem scanPrefixes_bytes (bs : List Byte) :
    ((scanPrefixes bs).1.flatMap fun p => p.shape.opcode) ++ (scanPrefixes bs).2 = bs := by
  induction bs with
  | nil => rfl
  | cons b bs ih =>
    cases hb : prefixOf b with
    | none => simp [scanPrefixes, hb]
    | some p => simpa [scanPrefixes, hb, opcode_of_prefixOf b p hb] using ih

theorem t1Entry_of_prefix : ∀ b : Byte, (prefixOf b).isSome = true → t1Entry b.toNat = .null := by decide +kernel

/-- No row that the resolver names begins with the byte of one of the prefixes. -/
theorem prefixOf_eq_none_of_opcodeRow {opszSeen : Bool} {op : List Byte} {r : BitVec 3} {i : Instr}
    (h : opcodeRow opszSeen op r = some i) (rest : List Byte) : ∀ b ∈ (op ++ rest).head?, prefixOf b = none := by
  obtain ⟨rfl, -, -⟩ | ⟨b, rfl, -, hpick⟩ | ⟨b, rfl, -⟩ := opcodeRow_cases h
  · rintro _ ⟨⟩
    rfl
  · rintro _ ⟨⟩
    by_contra hp
    rw [t1Entry_of_prefix b (Option.isSome_iff_ne_none.mpr hp)] at hpick
    cases hpick
  · rintro _ ⟨⟩
    rfl

/-! One instruction. -/

section
variable {c : SizeCtx} {x : Insn}

theorem Insn.wf_iff : x.wf c = true ↔ (x.regWf = true ∧ x.rowWf c = true) ∧ x.rmWf c = true ∧ x.immWf c = true := by
  simp only [Insn.wf, Bool.and_eq_true]
  tauto

theorem encode_eq (c : SizeCtx) (x : Insn) : encode c x = x.row.opcodeAt x.reg ++ x.operandBytes c :=
  List.append_assoc ..

/-- Behind the opcode stands the register field. -/
theorem fieldIs_operandBytes (rest : List Byte) : x.row.FieldIs (x.operandBytes c ++ rest) x.reg := by
  intro hm
  rw [operandBytes_of_modRm hm, encodeRm_eq]
  exact ⟨_, _, rfl, midField_packFields _ _ _⟩

/-- The escape's row is well-formed where its second byte names no row (R171). -/
theorem rowWf_escape_iff (h : x.row = .escape0F) : x.rowWf c = true ↔ t2Entry x.imm.toNat = .null := by
  rw [Insn.rowWf, h]
  cases t2Entry x.imm.toNat <;> simp [Entry.isNull]

theorem regWf_escape_iff (h : x.row = .escape0F) : x.regWf = true ↔ x.reg = 0 := by
  have hreg : x.regWf = (x.reg == 0) := by rw [Insn.regWf, h]; rfl
  rw [hreg, beq_iff_eq]

theorem opcodeAt_escape : ∀ r : BitVec 3, Instr.escape0F.opcodeAt r = [0x0F] := by decide

/-- Behind the escape stands the second byte. -/
theorem operandBytes_escape (h : x.row = .escape0F) : x.operandBytes c = [BitVec.ofNat 8 x.imm.toNat] := by
  rw [operandBytes_of_not_modRm (by rw [h]; decide), immBytes_of_some (by rw [h]; rfl)]
  rfl

theorem imm_toNat_escape (h : x.row = .escape0F) (hwf : x.immWf c = true) : (BitVec.ofNat 8 x.imm.toNat).toNat = x.imm.toNat := by
  have hlt : x.imm.toNat < 256 := (immWf_iff_of_some (k := .second) (by rw [h]; rfl)).mp hwf
  rw [BitVec.toNat_ofNat, Nat.mod_eq_of_lt hlt]

/-- A well-formed instruction is selected and read back from its encoding, which does not begin with the byte of one of the
prefixes. -/
theorem decode_encode_insn (hc : c.Legal) (hp : x.row ∉ prefixRows) (hwf : x.wf c = true) (rest : List Byte) :
    (∀ b ∈ (encode c x ++ rest).head?, prefixOf b = none)
      ∧ ∃ via b tail, selectRow c (encode c x ++ rest) = .row via x.row b tail ∧ parseParts c x.row b tail = some (x, rest) := by
  obtain ⟨hregrow, hparts⟩ := Insn.wf_iff.mp hwf
  rw [encode_eq, List.append_assoc]
  by_cases hesc : x.row = .escape0F
  · obtain ⟨hreg, hnull⟩ := hregrow
    rw [rowWf_escape_iff hesc, ← imm_toNat_escape hesc hparts.2] at hnull
    have hop : x.row.opcodeAt x.reg = [0x0F] := by rw [hesc, opcodeAt_escape]
    refine ⟨by rw [hop]; rintro _ ⟨⟩; rfl, [], 0x0F, x.operandBytes c ++ rest, ?_, ?_⟩
    · rw [hop, hesc, operandBytes_escape hesc]
      exact (selectRow_t2 ..).trans (by rw [hnull]; rfl)
    · refine (parseParts_eq_some_iff hc ..).mpr ⟨⟨rfl, ?_⟩, hparts, rfl⟩
      rw [(regWf_escape_iff hesc).mp hreg, hesc]
      rfl
  · obtain ⟨hrow, hreg⟩ := opcodeRow_opcodeAt x.row hp c.opszSeen x.reg ((regRowWf_iff hesc c).mpr hregrow)
    obtain ⟨via, hsel⟩ := selectRow_of_opcodeRow hrow (fieldIs_operandBytes rest)
    exact ⟨prefixOf_eq_none_of_opcodeRow hrow _, via, _, _, hsel, (parseParts_eq_some_iff hc ..).mpr ⟨⟨rfl, hreg⟩, hparts, rfl⟩⟩

/-- What is selected and read is a well-formed instruction, and the bytes are its encoding and the rest. -/
theorem encode_of_selectRow (hc : c.Legal) {bs tail rest : List Byte} {via : List Instr} {i : Instr} {b : Byte}
    (hsel : selectRow c bs = .row via i b tail) (hparts : parseParts c i b tail = some (x, rest)) :
    x.wf c = true ∧ bs = encode c x ++ rest := by
  obtain ⟨⟨rfl, hreg⟩, hwf, rfl⟩ := (parseParts_eq_some_iff hc ..).mp hparts
  rw [Insn.wf_iff, encode_eq, List.append_assoc]
  obtain ⟨hesc, hbs, hnull⟩ | ⟨op, rfl, hbs, hrow⟩ := opcodeRow_of_selectRow hsel (fieldIs_operandBytes rest)
  · have hreg0 : x.reg = 0 := by rw [← hreg, hesc]; rfl
    rw [operandBytes_escape hesc] at hnull
    have hrow := hnull _ rfl
    rw [imm_toNat_escape hesc hwf.2] at hrow
    refine ⟨⟨⟨(regWf_escape_iff hesc).mpr hreg0, (rowWf_escape_iff hesc).mpr hrow⟩, hwf⟩, ?_⟩
    rw [hbs, hesc, opcodeAt_escape]
    rfl
  · obtain ⟨hop, hregrow⟩ := Bool.and_eq_true_iff.mp (standsAt_of_opcodeRow hrow)
    rw [hreg] at hop hregrow
    have hesc : x.row ≠ .escape0F := by
      intro h
      rw [h] at hregrow
      cases hregrow
    exact ⟨⟨(regRowWf_iff hesc c).mp hregrow, hwf⟩, by rw [hbs, ← beq_iff_eq.mp hop]⟩

end

/-- The defaults stay legal under any prefixes. -/
theorem sizesUnder_legal {defOp defAd : SizeClass} (hop : defOp = .word ∨ defOp = .long) (had : defAd = .word ∨ defAd = .long)
    (ps : List Instr) : (sizesUnder defOp defAd ps).Legal := ⟨hop, had⟩

/-! The statements of 30_encoding.md about the decoder. -/

/-- Settles O11: the scan of the prefixes stops before the encoding, the row stands at its own opcode bytes, and each part is read
back from its own bytes. -/
theorem decodeEncode : Obligations.DecodeEncode := by
  intro defOp defAd ps x rest hps hx hop had hwf
  obtain ⟨hhead, via, b, tail, hsel, hparts⟩ := decode_encode_insn (sizesUnder_legal hop had ps) hx hwf rest
  refine ⟨via, b, tail, ?_⟩
  rw [List.append_assoc]
  simp only [decode, scanPrefixes_append hps hhead, hsel, Selected.parts, hparts]

/-- Settles O12: the scan of the prefixes loses no byte, and what is selected behind it and read is well-formed and stood at its own bytes. -/
theorem encodeDecode : Obligations.EncodeDecode := by
  intro defOp defAd bs rest x hop had h
  have hc := sizesUnder_legal hop had (scanPrefixes bs).1
  have hbytes := scanPrefixes_bytes bs
  simp only [decode] at h ⊢
  cases hsel : selectRow (sizesUnder defOp defAd (scanPrefixes bs).1) (scanPrefixes bs).2 with
  | row via i b tail =>
    rw [hsel] at h
    obtain ⟨hwf, htail⟩ := encode_of_selectRow hc hsel h
    exact ⟨hwf, by rw [List.append_assoc, ← htail, hbytes]⟩
  | unknownOpcode b tail =>
    rw [hsel] at h
    cases h
  | endOfStream =>
    rw [hsel] at h
    cases h

/-- Settles O13: the decoder, run on the seven byte strings. -/
theorem decodeWords : Obligations.DecodeWords := by
  unfold Obligations.DecodeWords
  decide +kernel

end Sys2Proof

/-! SUPPORT. The statements of 30_encoding.md about REF itself, and the invariant of a created context. -/

namespace Sys2Proof.Machine

open Sys2Proof.Claims

/-- Settles O14: REF satisfies W1 to W12, row by row. -/
theorem refWellFormed : Obligations.RefWellFormed := refTables_wf

/-- The null entries of T1, in order, but for the bytes that never reach it. -/
theorem nullT1_eq : (List.range 256).filter (fun k => !neverT1 k && (rowAt refT1 k).isNone) = nullT1 := by decide +kernel

/-- The null entries of T2, in order. -/
theorem nullT2_eq : (List.range 256).filter (fun k => (rowAt refT2 k).isNone) = nullT2 := by decide +kernel

/-- REF has no row at a byte that never reaches T1 (W11). -/
theorem rowAt_refT1_of_neverT1 {k : Nat} (h : neverT1 k = true) : rowAt refT1 k = none := by
  cases hd : rowAt refT1 k with
  | none => rfl
  | some d =>
    have hwf := refTables_wf
    simp only [Tables.wf, Bool.and_eq_true, List.all_eq_true] at hwf
    obtain ⟨⟨⟨-, ht1⟩, -⟩, -⟩ := hwf
    simpa [h] using (ht1 (k, d) (mem_of_rowAt hd)).2

/-- Settles O15: the two maps, byte by byte, and W11 for the bytes that never reach T1. -/
theorem nullEntries : Obligations.NullEntries := by
  refine ⟨fun b => ?_, fun b => ?_⟩
  · have hnever : neverT1 b.toNat = true ↔ b.toNat = 0x0F ∨ (prefixBit b).isSome = true := by simp [neverT1]
    rw [← hnever, ← nullT1_eq, List.mem_filter, List.mem_range, Bool.and_eq_true, Option.isNone_iff_eq_none]
    cases h : neverT1 b.toNat with
    | false => simp [b.isLt]
    | true => simp [rowAt_refT1_of_neverT1 h]
  · rw [← nullT2_eq, List.mem_filter, Option.isNone_iff_eq_none]
    simp [b.isLt]

/-- Settles O16: the groups, digit by digit. -/
theorem absentDigits : Obligations.AbsentDigits := by
  unfold Obligations.AbsentDigits
  decide +kernel

/-! RESET. -/

/-- Bytes written inside the length list no offset at or above it. -/
theorem Memory.below_writeBytes {m : Memory} {len a : Nat} {bs : List Byte} (h : m.below len = true) (ha : a + bs.length ≤ len) :
    (m.writeBytes a bs).below len = true := by
  induction bs generalizing m a with
  | nil => exact h
  | cons b bs ih =>
    rw [List.length_cons] at ha
    exact ih (Memory.below_write h (by omega) b) (by omega)

/-- RESET creates its context only over well-formed tables, with INIT_POS inside the source (70_reset_and_hazards.md R701; R612). -/
theorem State.create_next {p : ResetParams} {s : State} (h : State.create p = .next s) :
    s = p.context ∧ p.optable.tables.wf = true ∧ p.initPos ≤ p.src.length := by
  unfold State.create at h
  split_ifs at h with hwf hargs
  cases h
  exact ⟨rfl, hwf, hargs.1⟩

/-- The context that RESET makes: its source is canonical and inside L, POS is INIT_POS, and nothing has been decoded (R702 to R705). -/
theorem ResetParams.context_inv {p : ResetParams} (hwf : p.optable.tables.wf = true) (hpos : p.initPos ≤ p.src.length) :
    p.context.Inv where
  srcWf := Memory.wf_writeBytes (m := []) rfl 0 p.src
  srcBelow := Memory.below_writeBytes (m := []) rfl (Nat.le_of_eq (Nat.zero_add _))
  pos := hpos
  start := nofun
  defOpsize := rfl
  defAdsize := rfl
  tables := hwf
  status := rfl
  started := rfl
  decodeStatus := nofun
  legal := by rintro d ⟨⟩
  valid := by rintro r ⟨⟩
  reply := nofun
  setStatus := nofun

/-- Settles O3: RESET's own checks give the tables and POS, and every other clause is about the source as written or about a field without
a value. -/
theorem createdContextsInv : Obligations.CreatedContextsInv := by
  intro p s h
  obtain ⟨rfl, hwf, hpos⟩ := State.create_next h
  exact ResetParams.context_inv hwf hpos

end Sys2Proof.Machine

/-! SUPPORT. One DECODE as a step, at its two shortest ends, and the setters. -/

namespace Sys2Proof.Machine

open Sys2Proof.Claims

/-- With no request pending, a step over REF is the pipeline (40_decode_pipeline.md R206; log entry 1). -/
theorem step_eq_pipeline {s : State} (hreq : s.requests = []) (href : s.tables = .ref) :
    step s = .next (pipeline refTables s) := by
  rw [step, runNext, hreq]
  exact decodeOp_ref href

theorem remaining_of_supplies {s : State} {b : Byte} {bs : List Byte} (h : Supplies s (b :: bs)) :
    ∃ rest, s.remaining = b :: (bs ++ rest) := h

/-- Behind no prefix the pipeline is ResolveOpcode() and what follows it (R164). -/
theorem pipeline_of_not_prefix (t : Tables) {s : State} {b : Byte} {bs : List Byte} (h : s.remaining = b :: bs)
    (hb : prefixBit b = none) : pipeline t s = (resolveOpcode t s.begin).state := by
  have hscan : prefixScan (s.srcLen - s.pos + 1) s.begin = .go s.begin := by
    rw [prefixScan, readByte_cons h]
    simp only [hb, stepBack_skip]
  exact congrArg (fun f => (f.andThen (resolveOpcode t)).state) hscan

/-- Where the source has no byte left the pipeline ends before it has read one (R166). -/
theorem pipeline_of_nil (t : Tables) {s : State} (h : s.remaining = []) :
    pipeline t s = (raise .endOfStream s.begin).state := by
  have hscan : prefixScan (s.srcLen - s.pos + 1) s.begin = raise .endOfStream s.begin := by
    rw [prefixScan, readByte_nil h]
  exact congrArg (fun f => (f.andThen (resolveOpcode t)).state) hscan

theorem nullT1_no_prefix : ∀ b : Byte, b.toNat ∈ nullT1 → prefixBit b = none ∧ b ≠ 0x90 ∧ b ≠ 0x0F := by decide +kernel

/-- A null entry of T1 ends the DECODE after its byte (R170, R171). -/
theorem resolveOpcode_nullT1 {w : Work} {b : Byte} {bs : List Byte} (h : w.ctx.remaining = b :: bs) (hb : b.toNat ∈ nullT1) :
    resolveOpcode refTables w = lookupFailed b.toNat .unknownOpcode (latchOpcode b w.skip) := by
  obtain ⟨-, h90, h0F⟩ := nullT1_no_prefix b hb
  have hnull : rowAt refTables.t1 b.toNat = none := (nullEntries.1 b).mpr (.inl hb)
  rw [resolveOpcode, readByte_cons h]
  simp only [h90, h0F, false_and, if_false, hnull]
  rfl

/-- The defaults that SET_D and SET_PE recompute (R203). -/
theorem defaultSize_eq (pe dflag : Bool) : defaultSize pe dflag = if pe = true ∧ dflag = true then .long else .word := by
  simp only [defaultSize, Bool.and_eq_true]

theorem sizeInv_of_legal {c : SizeClass} (h : c = .word ∨ c = .long) : sizeInv c = if c = .long then .word else .long := by
  rcases h with rfl | rfl <;> rfl

/-! The statements of 40_decode_pipeline.md about one step and the setters. -/

/-- Settles O10: running the rows that the decoder selects is the pipeline, stage by stage. -/
theorem rowsArePipeline : Obligations.RowsArePipeline := fun _ href => decodeOp_ref href

/-- Settles O9: with no request pending a step is DECODE, which runs the rows of the prefixes and, where they leave it in progress, the
row behind them. -/
theorem stepRunsDecodedRow : Obligations.StepRunsDecodedRow := by
  intro s ps via i b rest x hreq href hdecoded
  have hstep : step s = runDecoded ⟨ps, .row via i b rest, x⟩ s.idle := by
    rw [step, runNext, hreq]
    simp only [decodeOp, href, State.decoded, hdecoded]
  rw [hstep]
  refine ⟨?_, fun t hrun hgoes => ?_⟩
  · rintro rfl
    exact runDecoded_goes_on rfl fun h => absurd rfl h
  · exact runDecoded_goes_on hrun fun _ => hgoes

/-- Settles O27: a byte of a null entry is no prefix, and its lookup in T1 fails. -/
theorem unknownOneByteOpcode : Obligations.UnknownOneByteOpcode := by
  intro s b hreq href hsupplies hb
  obtain ⟨rest, hrem⟩ := remaining_of_supplies hsupplies
  have hbegin : s.begin.ctx.remaining = b :: rest := hrem
  rw [step_eq_pipeline hreq href, pipeline_of_not_prefix _ hrem (nullT1_no_prefix b hb).1, resolveOpcode_nullT1 hbegin hb,
    lookupFailed, raise_of_not_fault rfl]
  rfl

/-- Settles O28: the first read of the prefix scan finds no byte. -/
theorem emptyRemainder : Obligations.EmptyRemainder := by
  intro s hreq href hend
  rw [step_eq_pipeline hreq href, pipeline_of_nil _ (remaining_eq_nil.mpr hend), raise_of_not_fault rfl]
  rfl

/-- Settles O32: DECODE keeps everything outside the record, and SET_POS, FORMAT and the source's owner write neither flag and no
default. -/
theorem modeOnlyBySetters : Obligations.ModeOnlyBySetters := by
  intro r s t hD hPe h
  cases r with
  | decode =>
    have hout := (decodeOp_end h).outside
    exact ⟨hout.pe, hout.dflag, hout.defOpsize, hout.defAdsize⟩
  | setD v => exact absurd rfl (hD v)
  | setPe v => exact absurd rfl (hPe v)
  | setPos p =>
    cases h
    unfold setPosOp
    split <;> exact ⟨rfl, rfl, rfl, rfl⟩
  | format =>
    rw [(formatOp_cases h).1]
    exact ⟨rfl, rfl, rfl, rfl⟩
  | sourceByte a b =>
    cases h
    unfold sourceByteOp
    split <;> exact ⟨rfl, rfl, rfl, rfl⟩

/-- Settles O39: legal defaults are word or long, on which INV is the exchange of the two. -/
theorem effectiveSizes : Obligations.EffectiveSizes := by
  intro d w hsizes
  simp only [opsize, adsize, Desc.opszFixed, Desc.adszFixed, sizeInv_of_legal hsizes.1, sizeInv_of_legal hsizes.2, and_self]

/-- Settles O40: SET_D by whether its value is in range and whether it changes DFLAG. -/
theorem setDefaultWidth : Obligations.SetDefaultWidth := by
  intro v s
  refine ⟨fun hv hsame => ⟨some .ok, ?_⟩, fun hv hchanged => ⟨some .ok, ?_⟩, fun hv => ⟨none, ?_⟩⟩
  · rw [runRequest, setDOp, if_pos hv, if_pos hsame]
    rfl
  · rw [runRequest, setDOp, if_pos hv, if_neg hchanged]
    simp only [setterOk, recompute, defaultSize_eq, beq_iff_eq]
  · rw [runRequest, setDOp, if_neg (Nat.not_le.mpr hv)]
    rfl

/-- Settles O41: SET_PE by whether its value is in range and whether it changes PE. -/
theorem setProtectedMode : Obligations.SetProtectedMode := by
  intro v s
  refine ⟨fun hv hsame => ⟨some .ok, ?_⟩, fun hv hchanged => ⟨some .ok, ?_⟩, fun hv => ⟨none, ?_⟩⟩
  · rw [runRequest, setPeOp, if_pos hv, if_pos hsame]
    rfl
  · rw [runRequest, setPeOp, if_pos hv, if_neg hchanged]
    simp only [setterOk, recompute, defaultSize_eq, beq_iff_eq]
  · rw [runRequest, setPeOp, if_neg (Nat.not_le.mpr hv)]
    rfl

/-- Settles O42: SET_POS by whether its value is inside the source. -/
theorem setPosition : Obligations.SetPosition := by
  intro p s
  refine ⟨fun hp => ⟨some .ok, ?_⟩, fun hp => ⟨none, ?_⟩⟩
  · rw [runRequest, setPosOp, if_pos hp]
    rfl
  · rw [runRequest, setPosOp, if_neg (Nat.not_le.mpr hp)]
    rfl

end Sys2Proof.Machine

/-! SUPPORT. The cursor and the ModR/M stage over a source that supplies an instruction's parts: the stage goes on behind the bytes, with
the addressing fields written as the form says (40_decode_pipeline.md R176 to R181). -/

namespace Sys2Proof.Machine

open Sys2Proof.Claims

/-! The cursor behind bytes that the source supplies. -/

/-- The DECODE n bytes further on. -/
def Work.ahead (n : Nat) (w : Work) : Work := ⟨{ w.ctx with pos := w.ctx.pos + n }, w.di⟩

theorem Work.skip_ahead (n : Nat) (w : Work) : w.skip.ahead n = w.ahead (n + 1) := by
  simp only [Work.ahead, Work.skip, Nat.add_assoc, Nat.add_comm 1 n]

theorem ahead_remaining {w : Work} {bs rest : List Byte} (h : w.ctx.remaining = bs ++ rest) :
    (w.ahead bs.length).ctx.remaining = rest := by
  induction bs generalizing w with
  | nil => exact h
  | cons b bs ih =>
    have htail := ih (skip_remaining h)
    rwa [Work.skip_ahead] at htail

@[simp] theorem leBytes_length (n v : Nat) : (leBytes n v).length = n := by
  induction n generalizing v with
  | zero => rfl
  | succ n ih => rw [leBytes, List.length_cons, ih]

/-- A read of the bytes of a value gives the value (20_memory.md R83, R89). -/
theorem readN_leBytes {n v : Nat} {w : Work} {rest : List Byte} (hn : n = 1 ∨ n = 2 ∨ n = 4) (hv : v < 256 ^ n)
    (h : w.ctx.remaining = leBytes n v ++ rest) (k : Nat → Work → Flow) : readN n w k = k v (w.ahead n) := by
  have hlen : w.ctx.srcLen - w.ctx.pos = n + rest.length := by
    have hcount : w.ctx.remaining.length = w.ctx.srcLen - w.ctx.pos := Memory.bytes_length ..
    rw [← hcount, h, List.length_append, leBytes_length]
  have hvalue := (takeLE_eq_some_iff n _ v rest).mpr ⟨hv, h⟩
  rw [State.remaining, hlen, Memory.takeLE_bytes] at hvalue
  obtain ⟨hvalue, -⟩ := Prod.mk.inj (Option.some.inj hvalue)
  rw [readN_supplied hn (by omega), hvalue, Work.ahead]

/-! The displacement. -/

/-- The displacement of a size class, if there is one, in DISP and DISP_SIZE (10_state.md R61). -/
def Di.withDisp (cls : SizeClass) (v : Word) (d : Di) : Di :=
  { d with
    disp := if cls = .none then d.disp else some (dispStored cls v)
    dispSize := if cls = .none then d.dispSize else cls }

/-- The read of a displacement of a size class. -/
def dispStage (cls : SizeClass) (w : Work) : Flow := if cls = .none then .go w else readDisp (readWidth cls) cls w

/-- Under 32-bit addressing, `base` being the SIB byte's where there is one (R121, R180). -/
theorem disp32_eq {mod : BitVec 2} {rm base : BitVec 3} {w : Work} (hbase : rm = 4 → w.di.base = some base) :
    disp32 mod rm w = dispStage (dispClass .long mod rm base) w := by
  have hcond : (rm = 4 ∧ w.di.base = some 5) ↔ (rm = 4 ∧ base = 5) := by
    constructor <;> rintro ⟨h, h'⟩ <;> simp_all
  unfold disp32 dispClass dispStage
  simp only [hcond]
  split_ifs <;> simp_all [readWidth, sizeBytes]

/-- Under 16-bit addressing (R122, R181). -/
theorem disp16_eq (mod : BitVec 2) (rm base : BitVec 3) (w : Work) :
    disp16 mod rm w = dispStage (dispClass .word mod rm base) w := by
  unfold disp16 dispClass dispStage
  split_ifs <;> simp_all [readWidth, sizeBytes]

/-- The three widths of a displacement are kept sign-extended (30_encoding.md R123). -/
theorem sextBytes_eq_dispStored {cls : SizeClass} (h : cls = .byte ∨ cls = .word ∨ cls = .long) (v : Word) :
    sextBytes (readWidth cls) v.toNat = dispStored cls v := by
  rcases h with rfl | rfl | rfl
  · rfl
  · rfl
  · simp [sextBytes, readWidth, sizeBytes, dispStored]

theorem dispStage_supplied {cls : SizeClass} (hcls : cls = .none ∨ cls = .byte ∨ cls = .word ∨ cls = .long) {v : Word}
    (hv : v.toNat < 256 ^ readWidth cls) {w : Work} {rest : List Byte}
    (h : w.ctx.remaining = leBytes (readWidth cls) v.toNat ++ rest) :
    dispStage cls w = .go ((w.ahead (readWidth cls)).setDi (w.di.withDisp cls v)) := by
  rcases hcls with rfl | hcls
  · rfl
  have hne : cls ≠ .none := by rintro rfl; simp at hcls
  have hwidth : readWidth cls = 1 ∨ readWidth cls = 2 ∨ readWidth cls = 4 := by
    rcases hcls with rfl | rfl | rfl <;> simp [readWidth, sizeBytes]
  rw [dispStage, if_neg hne, readDisp, readN_leBytes hwidth hv h, sextBytes_eq_dispStored hcls]
  simp only [Di.withDisp, if_neg hne, Work.ahead, Work.setDi]

theorem dispClass_cases (ad : SizeClass) (mod : BitVec 2) (rm base : BitVec 3) :
    dispClass ad mod rm base = .none ∨ dispClass ad mod rm base = .byte ∨ dispClass ad mod rm base = .word
      ∨ dispClass ad mod rm base = .long := by
  unfold dispClass
  split
  · split_ifs <;> simp
  · split_ifs <;> simp
  · simp

/-! The addressing form. -/

/-- SCALE, INDEX and BASE from a SIB byte, if there is one (10_state.md R60). -/
def Di.withSib (present : Bool) (s : Sib) (d : Di) : Di :=
  { d with
    scale := if present then 2 ^ s.code.toNat else d.scale
    index := if present then some s.index else d.index
    base := if present then some s.base else d.base }

/-- The addressing fields of a form and the register field beside it. -/
def Di.withRm (ad : SizeClass) (r : BitVec 3) (m : Rm) (d : Di) : Di :=
  (({ d with mod := some m.mod, reg := some r, rm := some m.rm }).withSib (hasSib ad m.mod m.rm) m.sib).withDisp
    (dispClass ad m.mod m.rm m.sib.base) m.disp

/-- The bytes of an addressing form behind its ModR/M byte. -/
def rmTail (ad : SizeClass) (m : Rm) : List Byte :=
  sibBytes (hasSib ad m.mod m.rm) m.sib ++ leBytes (dispBytes ad m.mod m.rm m.sib.base) m.disp.toNat

theorem addressing_supplied {ad : SizeClass} (had : ad = .word ∨ ad = .long) {m : Rm} (hwf : m.wf ad = true) (hmod : m.mod ≠ 3)
    {w : Work} {rest : List Byte} (h : w.ctx.remaining = rmTail ad m ++ rest) :
    addressing ad m.mod m.rm w = .go ((w.ahead (rmTail ad m).length).setDi
      ((w.di.withSib (hasSib ad m.mod m.rm) m.sib).withDisp (dispClass ad m.mod m.rm m.sib.base) m.disp)) := by
  obtain ⟨-, hdisp⟩ := (Rm.wf_iff ad m).mp hwf
  rw [rmTail, List.append_assoc] at h
  have hcls := dispClass_cases ad m.mod m.rm m.sib.base
  by_cases hsib : hasSib ad m.mod m.rm = true
  · obtain ⟨rfl, hrm⟩ : ad = .long ∧ m.rm = 4 := by
      simp only [hasSib, Bool.and_eq_true, beq_iff_eq] at hsib
      exact ⟨hsib.1.1, hsib.2⟩
    simp only [hsib, sibBytes, if_true, List.singleton_append] at h
    simp only [addressing, if_pos hrm]
    rw [readByte_cons h, disp32_eq (base := m.sib.base) (by simp)]
    have htail := dispStage_supplied (w := setSib (packFields m.sib.code m.sib.index m.sib.base) w.skip) hcls hdisp
      (skip_remaining h)
    rw [htail]
    simp [rmTail, hsib, sibBytes, Work.ahead, Work.setDi, Work.skip, setSib, Di.withSib, dispBytes, readWidth,
      Nat.add_assoc, Nat.add_comm 1]
  · simp only [hsib, sibBytes] at h
    have htail := dispStage_supplied hcls hdisp h
    have hstage : addressing ad m.mod m.rm w = dispStage (dispClass ad m.mod m.rm m.sib.base) w := by
      rcases had with rfl | rfl
      · exact disp16_eq ..
      · have hrm : m.rm ≠ 4 := fun h => hsib (by simpa [hasSib, h] using hmod)
        simp only [addressing, if_neg hrm]
        exact disp32_eq fun h => absurd h hrm
    rw [hstage, htail]
    simp [rmTail, hsib, sibBytes, Di.withSib, dispBytes, readWidth]

theorem encodeRm_eq_cons (ad : SizeClass) (r : BitVec 3) (m : Rm) :
    encodeRm ad r m = packFields m.mod r m.rm :: rmTail ad m := rfl

/-- With MOD = 3 the form is the ModR/M byte alone (R177). -/
theorem modThree_form (ad : SizeClass) {m : Rm} (h : m.mod = 3) :
    hasSib ad m.mod m.rm = false ∧ dispClass ad m.mod m.rm m.sib.base = .none := by
  rw [h]
  cases ad <;> simp [hasSib, dispClass]

/-- The ModR/M decoder over the bytes of a well-formed addressing form. -/
theorem modRm_supplied {d : Desc} {w : Work} (had : adsize d w = .word ∨ adsize d w = .long) {r : BitVec 3} {m : Rm}
    (hwf : m.wf (adsize d w) = true) {rest : List Byte} (h : w.ctx.remaining = encodeRm (adsize d w) r m ++ rest) :
    modRm d w = .go ((w.ahead (encodeRm (adsize d w) r m).length).setDi (w.di.withRm (adsize d w) r m)) := by
  rw [encodeRm_eq_cons, List.cons_append] at h
  rw [modRm, readByte_cons h]
  simp only [topField_packFields, lowField_packFields]
  by_cases hmod : m.mod = 3
  · obtain ⟨hsib, hcls⟩ := modThree_form (adsize d w) hmod
    rw [if_pos hmod]
    simp [encodeRm, hsib, hcls, dispBytes, sizeBytes, leBytes, Di.withRm, Di.withSib, Di.withDisp, setModRm, Work.ahead,
      Work.setDi, Work.skip]
  · rw [if_neg hmod]
    have hform := addressing_supplied (w := setModRm (packFields m.mod r m.rm) w.skip) had hwf hmod (skip_remaining h)
    refine hform.trans ?_
    simp [encodeRm_eq_cons, Di.withRm, setModRm, Work.ahead, Work.setDi, Work.skip, Nat.add_assoc, Nat.add_comm 1]

/-! The statements of 40_decode_pipeline.md about the ModR/M byte. -/

theorem packFields_three : ∀ r m : BitVec 3, (packFields 3 r m).toNat = 0xC0 + r.toNat * 8 + m.toNat := by decide

/-- Settles O37: such a byte has MOD = 3, and the decoder stops behind it. -/
theorem modThreeReadsNothing : Obligations.ModThreeReadsNothing := by
  intro d w r m hlt hbyte
  have hpack : w.ctx.src.read w.ctx.pos = packFields 3 r m := BitVec.eq_of_toNat_eq (hbyte.trans (packFields_three r m).symm)
  rw [modRm, readByte_of_lt hlt, hpack]
  simp only [topField_packFields, if_true, setModRm, midField_packFields, lowField_packFields]
  rfl

theorem topField_ne_three : ∀ b : Byte, b.toNat < 0xC0 → topField b ≠ 3 := by decide +kernel

/-- An address size other than word and long has no addressing forms (R178). -/
theorem addressing_of_not_legal {ad : SizeClass} (hword : ad ≠ .word) (hlong : ad ≠ .long) (mod : BitVec 2) (rm : BitVec 3)
    (w : Work) : addressing ad mod rm w = raise .configAssert w := by
  cases ad
  case word => exact absurd rfl hword
  case long => exact absurd rfl hlong
  all_goals rfl

/-- Settles O38: below MOD = 3 the address size is asked for behind the ModR/M byte, and CONFIG_ASSERT sets the fault mark. -/
theorem addressSizeAsserted : Obligations.AddressSizeAsserted := by
  intro d w hlt hbyte hword hlong
  have hstage : modRm d w = raise .configAssert (setModRm (w.ctx.src.read w.ctx.pos) w.skip) := by
    rw [modRm, readByte_of_lt hlt]
    simp only [if_neg (topField_ne_three _ hbyte)]
    exact addressing_of_not_legal hword hlong _ _ _
  rw [hstage, raise_of_fault rfl]
  exact ⟨_, rfl, rfl, rfl, rfl⟩

end Sys2Proof.Machine

/-! SUPPORT. The operand stage over a source that supplies the immediate-class part: REG and IMM are what the tags say, the last that
writes each (40_decode_pipeline.md R182 to R191). -/

namespace Sys2Proof.Machine

open Sys2Proof.Claims

/-- The immediate-class part that a tag of REF reads (30_encoding.md R123, R124). -/
def Tag.part : Tag → Option ImmKind
  | .ib => some .ib
  | .iw => some .iw
  | .ibs => some .ibs
  | .iv => some .iv
  | .ov => some .ov
  | .jb => some .jb
  | .jv => some .jv
  | _ => Option.none

/-- How many bytes a tag reads. -/
def Tag.width (c : SizeCtx) (t : Tag) : Nat := (t.part.map (·.bytes c)).getD 0

/-- The sizes that the operands of `d` are read under. -/
structure Work.ReadsUnder (c : SizeCtx) (d : Desc) (w : Work) : Prop where
  legal : c.Legal
  adsize : adsize d w = c.adsize
  opsize : .iv ∈ d.tags → opsize d w = c.opsize

theorem sizeCtx_opsize_legal {c : SizeCtx} (h : c.Legal) : c.opsize = .word ∨ c.opsize = .long := by
  unfold SizeCtx.opsize
  split
  · exact sizeInv_legal h.defOp
  · exact h.defOp

theorem sizeCtx_adsize_legal {c : SizeCtx} (h : c.Legal) : c.adsize = .word ∨ c.adsize = .long := by
  unfold SizeCtx.adsize
  split
  · exact sizeInv_legal h.defAd
  · exact h.defAd

/-- The DECODE after one tag: its bytes read, and REG and IMM as it says. -/
def Work.tagged (c : SizeCtx) (opb : Byte) (v : Word) (t : Tag) (w : Work) : Work :=
  (w.ahead (t.width c)).setDi { w.di with
    reg := (regCode opb t).or w.di.reg
    imm := (immStored w.ctx.immExt c.opsize v t).or w.di.imm }

theorem readImm_supplied {n : Nat} {v : Word} {w : Work} {rest : List Byte} (hn : n = 1 ∨ n = 2 ∨ n = 4) (hv : v.toNat < 256 ^ n)
    (h : w.ctx.remaining = leBytes n v.toNat ++ rest) (f : Nat → Word) :
    readImm n f w = .go ((w.ahead n).setDi { w.di with imm := some (f v.toNat) }) := by
  rw [readImm, readN_leBytes hn hv h]
  rfl

theorem extBytes_eq_immExt (e : ImmExt) (n : Nat) (v : Word) : extBytes e n v.toNat = immExt e (8 * n) v := by
  cases e
  · rfl
  · exact BitVec.ofNat_toNat .. |>.trans (BitVec.setWidth_eq v)

theorem ofNat_toNat_word (v : Word) : BitVec.ofNat 32 v.toNat = v := by simp

/-- The register bits of an opcode byte (R184). -/
theorem lowBits_eq : ∀ b : Byte, b.extractLsb' 0 3 = BitVec.ofNat 3 (b.toNat % 8) := by decide +kernel

/-- The segment bits of an opcode byte (R185). -/
theorem segmentBits_eq : ∀ b : Byte, (b.extractLsb' 3 2).setWidth 3 = BitVec.ofNat 3 (b.toNat / 8 % 4) := by decide +kernel

theorem regFromOpb_latched {w : Work} {opb : Byte} (h : w.di.opb = some opb) (f : Byte → BitVec 3) :
    regFromOpb f w = setReg (f opb) w := by
  have hmap : w.di.opb.map f = some (f opb) := by rw [h]; rfl
  rw [regFromOpb, hmap]
  rfl

/-- The action of one tag of REF over the bytes that it reads. -/
theorem extractTag_supplied {c : SizeCtx} {d : Desc} {w : Work} (hw : w.ReadsUnder c d) {t : Tag} (ht : t ∈ d.tags) (hil : t ≠ .il)
    {opb : Byte} (hopb : w.di.opb = some opb) {v : Word} (hv : ∀ k, t.part = some k → v.toNat < 256 ^ k.bytes c)
    {rest : List Byte} (h : w.ctx.remaining = leBytes (t.width c) v.toNat ++ rest) :
    extractTag d t w = .go (w.tagged c opb v t) := by
  have hread (n : Nat) (f : Nat → Word) (hn : n = 1 ∨ n = 2 ∨ n = 4) (hwidth : t.width c = n) (hfits : v.toNat < 256 ^ n)
      (hreg : regCode opb t = none) (himm : immStored w.ctx.immExt c.opsize v t = some (f v.toNat)) :
      readImm n f w = .go (w.tagged c opb v t) := by
    rw [readImm_supplied hn hfits (hwidth ▸ h), Work.tagged, hreg, himm, hwidth]
    rfl
  have hadsize : readWidth c.adsize = 1 ∨ readWidth c.adsize = 2 ∨ readWidth c.adsize = 4 := by
    rcases sizeCtx_adsize_legal hw.legal with h | h <;> simp [h, readWidth, sizeBytes]
  cases t
  case il => exact absurd rfl hil
  case ib => exact hread 1 _ (.inl rfl) rfl (hv _ rfl) rfl (by rw [extBytes_eq_immExt]; rfl)
  case iw => exact hread 2 _ (.inr (.inl rfl)) rfl (hv _ rfl) rfl (by rw [extBytes_eq_immExt]; rfl)
  case ibs | jb => exact hread 1 _ (.inl rfl) rfl (hv _ rfl) rfl rfl
  case ov | jv =>
    rw [extractTag, hw.adsize]
    exact hread _ _ hadsize rfl (hv _ rfl) rfl (by rw [ofNat_toNat_word]; rfl)
  case iv =>
    rw [extractTag, hw.opsize ht]
    rcases sizeCtx_opsize_legal hw.legal with hop | hop
    · refine hread _ _ ?_ rfl (hv _ rfl) rfl ?_ <;> simp [hop, readWidth, sizeBytes, immStored, extBytes_eq_immExt]
    · refine hread _ _ ?_ rfl (hv _ rfl) rfl ?_ <;> simp [hop, readWidth, sizeBytes, immStored]
  case zb | zv | zd => exact (regFromOpb_latched hopb _).trans (by rw [lowBits_eq]; rfl)
  case seg2 => exact (regFromOpb_latched hopb _).trans (by rw [segmentBits_eq]; rfl)
  all_goals rfl

/-- The DECODE after the tags `ts`. -/
def Work.extracted (c : SizeCtx) (opb : Byte) (v : Word) (ts : List Tag) (w : Work) : Work :=
  (w.ahead (ts.map (Tag.width c)).sum).setDi { w.di with
    reg := ((ts.filterMap (regCode opb)).getLast?).or w.di.reg
    imm := ((ts.filterMap (immStored w.ctx.immExt c.opsize v)).getLast?).or w.di.imm }

/-- The last tag that writes a field decides it. -/
theorem getLast?_filterMap_cons_or {α β : Type} (f : α → Option β) (a : α) (as : List α) (o : Option β) :
    (((a :: as).filterMap f).getLast?).or o = ((as.filterMap f).getLast?).or ((f a).or o) := by
  cases h : f a with
  | none => simp [h]
  | some b => cases h' : (as.filterMap f).getLast? <;> simp [h, List.getLast?_cons, h']

theorem extracted_tagged (c : SizeCtx) (opb : Byte) (v : Word) (t : Tag) (ts : List Tag) (w : Work) :
    (w.tagged c opb v t).extracted c opb v ts = w.extracted c opb v (t :: ts) := by
  simp only [Work.extracted, Work.tagged, getLast?_filterMap_cons_or, Work.ahead, Work.setDi, List.map_cons, List.sum_cons,
    Nat.add_assoc]

/-- The operand extractor over the bytes that its tags read. -/
theorem extractTags_supplied {c : SizeCtx} {d : Desc} {opb : Byte} {v : Word} {rest : List Byte} {ts : List Tag}
    (hts : ∀ t ∈ ts, t ∈ d.tags ∧ t ≠ .none ∧ t ≠ .il ∧ ∀ k, t.part = some k → v.toNat < 256 ^ k.bytes c)
    {w : Work} (hw : w.ReadsUnder c d) (hopb : w.di.opb = some opb)
    (h : w.ctx.remaining = (ts.flatMap fun t => leBytes (t.width c) v.toNat) ++ rest) :
    extractTags d ts w = .go (w.extracted c opb v ts) := by
  induction ts generalizing w with
  | nil => rfl
  | cons t ts ih =>
    obtain ⟨ht, hnone, hil, hv⟩ := hts t List.mem_cons_self
    have hstep : extractTags d (t :: ts) w = (extractTag d t w).andThen (extractTags d ts) := by
      cases t
      case none => exact absurd rfl hnone
      all_goals rfl
    rw [List.flatMap_cons, List.append_assoc] at h
    have htail := ahead_remaining h
    rw [leBytes_length] at htail
    rw [hstep, extractTag_supplied hw ht hil hopb hv h, Flow.andThen_go, ← extracted_tagged]
    exact ih (fun u hu => hts u (List.mem_cons_of_mem t hu)) (w := w.tagged c opb v t) ⟨hw.legal, hw.adsize, hw.opsize⟩ hopb htail

/-- The bytes that the tags read are the immediate-class parts, one after another. -/
theorem flatMap_width (c : SizeCtx) (v : Nat) (ts : List Tag) :
    (ts.flatMap fun t => leBytes (t.width c) v) = (ts.filterMap Tag.part).flatMap fun k => leBytes (k.bytes c) v := by
  induction ts with
  | nil => rfl
  | cons t ts ih =>
    rw [List.flatMap_cons, ih, List.filterMap_cons]
    cases h : t.part <;> simp [Tag.width, h, leBytes]

theorem immBytes_eq_flatMap (c : SizeCtx) (x : Insn) :
    x.immBytes c = x.row.shape.imm.toList.flatMap fun k => leBytes (k.bytes c) x.imm.toNat := by
  cases h : x.row.shape.imm with
  | none => exact immBytes_of_none h
  | some k => rw [immBytes_of_some h]; simp

end Sys2Proof.Machine

/-! SUPPORT. The rows of the forms tables, by their place: what the opcode bytes, the ModR/M stage and the operand stage leave together is
the state that the statements write field by field. -/

namespace Sys2Proof.Machine

open Sys2Proof.Claims

/-! What a place says of its row. -/

/-- The shared operation that the row at a place is. -/
def placeMeaning (d : Desc) : Place → State → Result
  | .t1 b => oneByte b d
  | .t1Reg base => oneByteReg base d
  | .t2 b => twoByte b d
  | .t2Reg base => twoByteReg base d
  | .tg1 b digit => oneByteMember b groupDesc digit d
  | .tg2 b digit => twoByteMember b groupDesc digit d
  | .xchg66 => hardCoded 0x90 d

/-- The opcode bytes at a place, `r` being the register in them (30_encoding.md R116). -/
def placeOpcode (r : BitVec 3) : Place → List Byte
  | .t1 b => [b]
  | .t1Reg base => [regByte base r]
  | .t2 b => [0x0F, b]
  | .t2Reg base => [0x0F, regByte base r]
  | .tg1 b _ => [b]
  | .tg2 b _ => [0x0F, b]
  | .xchg66 => [0x90]

/-- What follows the opcode bytes of the row at a place. -/
def placeFinish (r : BitVec 3) (d : Desc) (p : Place) : Work → Flow :=
  match p with
  | .tg1 b digit => finishMember (.t1 b) b.toNat groupDesc digit d
  | .tg2 b digit => finishMember (.t2 b) (0x0F00 + b.toNat) groupDesc digit d
  | _ => finishRow (p.ref r) (p.key r) d

/-- An opcode byte with a register in it has its own low three bits clear. -/
def placeAligned : Place → Bool
  | .t1Reg base => lowField base == 0
  | .t2Reg base => lowField base == 0
  | _ => true

/-- The place is a group member's. -/
def placeIsMember : Place → Bool
  | .tg1 _ _ => true
  | .tg2 _ _ => true
  | _ => false

/-- Setting the register bits and adding the register are the same. -/
theorem regByte_of_aligned : ∀ base : Byte, lowField base = 0 → ∀ r : BitVec 3,
    lowField (regByte base r) = r ∧ base + r.setWidth 8 = regByte base r ∧ base.toNat + r.toNat = (regByte base r).toNat := by
  decide +kernel

/-- The DECODE behind the opcode bytes of a place. -/
def Work.opened (r : BitVec 3) (p : Place) (w : Work) : Work := latchOpcode (p.opb r) (w.ahead (placeOpcode r p).length)

/-- The row at a place reads its opcode bytes and goes on behind them. -/
theorem placeMeaning_supplied {p : Place} (hp : placeAligned p = true) (d : Desc) (r : BitVec 3) {s : State} {rest : List Byte}
    (h : (enter s).ctx.remaining = placeOpcode r p ++ rest) :
    placeMeaning d p s = .next (placeFinish r d p ((enter s).opened r p)).state := by
  have hescaped {b : Byte} (h : (enter s).ctx.remaining = 0x0F :: b :: rest) :
      (latchOpcode 0x0F (enter s).skip).ctx.remaining = b :: rest := skip_remaining h
  cases p with
  | t1 b => exact congrArg (fun f => Host.Outcome.next (Flow.state f)) (readByte_cons h _)
  | tg1 b digit => exact congrArg (fun f => Host.Outcome.next (Flow.state f)) (readByte_cons h _)
  | xchg66 => exact congrArg (fun f => Host.Outcome.next (Flow.state f)) (readByte_cons h _)
  | t2 b =>
    exact congrArg (fun f => Host.Outcome.next (Flow.state f))
      ((readByte_cons h _).trans (readByte_cons (hescaped h) _))
  | tg2 b digit =>
    exact congrArg (fun f => Host.Outcome.next (Flow.state f))
      ((readByte_cons h _).trans (readByte_cons (hescaped h) _))
  | t1Reg base =>
    obtain ⟨hlow, hopb, hkey⟩ := regByte_of_aligned base (by simpa [placeAligned] using hp) r
    simp only [placeMeaning, oneByteReg, readByte_cons h, hlow]
    simp only [placeFinish, Work.opened, Place.ref, Place.key, Place.opb, hopb, hkey]
    rfl
  | t2Reg base =>
    obtain ⟨hlow, hopb, hkey⟩ := regByte_of_aligned base (by simpa [placeAligned] using hp) r
    simp only [placeMeaning, twoByteReg, readByte_cons h, readByte_cons (hescaped h), hlow]
    simp only [placeFinish, Work.opened, Place.ref, Place.key, Place.opb, hopb, Nat.add_assoc, hkey]
    rfl

/-! The stages behind the opcode bytes. -/

/-- The ModR/M stage over the bytes of the addressing form, where the descriptor has one. -/
theorem modRmStage_supplied {c : SizeCtx} (hc : c.Legal) {d : Desc} {w : Work} (had : adsize d w = c.adsize) {r : BitVec 3} {m : Rm}
    (hwf : d.modRm = true → m.wf c.adsize = true) {rest : List Byte}
    (h : w.ctx.remaining = (if d.modRm then encodeRm c.adsize r m else []) ++ rest) :
    modRmStage d w = .go ((w.ahead (if d.modRm then encodeRm c.adsize r m else []).length).setDi
      (if d.modRm then w.di.withRm c.adsize r m else w.di)) := by
  unfold modRmStage
  split
  · rename_i hm
    rw [if_pos hm, ← had] at h
    rw [← had]
    exact modRm_supplied (had ▸ sizeCtx_adsize_legal hc) (had ▸ hwf hm) h
  · rfl

/-- The operand stage over the immediate-class part. -/
theorem operandStage_supplied {c : SizeCtx} {d : Desc} {opb : Byte} {v : Word} {rest : List Byte}
    (htags : ∀ t ∈ d.tags, t ≠ .none ∧ t ≠ .il ∧ ∀ k, t.part = some k → v.toNat < 256 ^ k.bytes c)
    {w : Work} (hw : w.ReadsUnder c d) (hopb : w.di.opb = some opb)
    (h : w.ctx.remaining = (d.tags.flatMap fun t => leBytes (t.width c) v.toNat) ++ rest) :
    operandStage d w = complete (w.extracted c opb v d.tags) := by
  rw [operandStage, extractTags_supplied (fun t ht => ⟨ht, htags t ht⟩) hw hopb h, Flow.andThen_go]

end Sys2Proof.Machine

/-! SUPPORT. The rows of the forms tables against the rest of the model, row by row, and the seven statements that each decodes. -/

namespace Sys2Proof.Machine

open Sys2Proof.Claims

/-- The rows of the forms tables of 41_arith.md to 47_flags_misc.md. -/
def allRows : List RowSpec :=
  arithRows ++ (shiftBitRows ++ (moveStackRows ++ (controlRows ++ (stringIoRows ++ (systemRows ++ flagsMiscRows)))))

/-- What a row's descriptor guarantees in REF: no fixed address size, a fixed operand size exactly where FIXED_OP has one and never beside
IV, and only the tags whose bytes an instruction's syntax has. -/
structure RefTags (d : Desc) : Prop where
  szovr : d.szovr = ⟨.none, d.fixedOp⟩
  adszFixed : d.adszFixed = false
  opszFixed : .iv ∈ d.tags → d.opszFixed = false
  tags : ∀ t ∈ d.tags, t ≠ .none ∧ t ≠ .il

/-- A row's constructor has the shape that its place and its descriptor say (30_encoding.md R111). -/
structure ShapeAgrees (p : RowSpec) : Prop where
  escape : p.row ≠ .escape0F
  aligned : placeAligned p.place = true
  modRm : p.row.shape.modRm = p.desc.modRm
  member : placeIsMember p.place = true → p.desc.modRm = true
  imm : p.row.shape.imm.toList = p.desc.tags.filterMap Tag.part
  opcode : ∀ r : BitVec 3, p.row.opcodeAt r = placeOpcode r p.place

theorem allRows_refTags : ∀ p ∈ allRows, RefTags p.desc := by
  have hall : ∀ p ∈ allRows, (p.desc.szovr = ⟨.none, p.desc.fixedOp⟩ ∧ p.desc.adszFixed = false)
      ∧ (.iv ∈ p.desc.tags → p.desc.opszFixed = false) ∧ ∀ t ∈ p.desc.tags, t ≠ .none ∧ t ≠ .il := by decide +kernel
  intro p hp
  obtain ⟨⟨hszovr, hadsz⟩, hopsz, htags⟩ := hall p hp
  exact ⟨hszovr, hadsz, hopsz, htags⟩

theorem allRows_shapeAgrees : ∀ p ∈ allRows, ShapeAgrees p := by
  have hall : ∀ p ∈ allRows, (p.row ≠ .escape0F ∧ placeAligned p.place = true)
      ∧ (p.row.shape.modRm = p.desc.modRm ∧ (placeIsMember p.place = true → p.desc.modRm = true))
      ∧ p.row.shape.imm.toList = p.desc.tags.filterMap Tag.part
      ∧ ∀ r : BitVec 3, p.row.opcodeAt r = placeOpcode r p.place := by decide +kernel
  intro p hp
  obtain ⟨⟨hescape, haligned⟩, ⟨hmodRm, hmember⟩, himm, hopcode⟩ := hall p hp
  exact ⟨hescape, haligned, hmodRm, hmember, himm, hopcode⟩

/-- The table entry that DESC names is the row's descriptor, at every register with which the row is the one selected. -/
theorem allRows_resolve : ∀ p ∈ allRows, ∀ (opszSeen : Bool) (r : BitVec 3), p.row.regRowWf opszSeen r = true →
    (p.place.ref r).resolve refTables Ref.xchg66_90 = some p.desc := by decide +kernel

/-- Each row's meaning is the shared operation of its place. -/
theorem allRows_meaning : ∀ p ∈ allRows, exec p.row = placeMeaning p.desc p.place := by
  refine List.forall_iff_forall_mem.mp ?_
  and_intros <;> rfl


/-! One row over the bytes of an instruction. -/

/-- The sizes that a DECODE in progress reads the next bytes under. -/
def Work.sizes (w : Work) : SizeCtx := ⟨w.ctx.defOpsize, w.ctx.defAdsize, w.di.opszSeen, w.di.adszSeen⟩

theorem sizesAt_eq (s : State) : sizesAt s = (enter s).sizes := by simp [sizesAt, Work.sizes]

theorem sizesAt_legal {s : State} (h : SizesLegal s) : (sizesAt s).Legal := ⟨h.1, h.2⟩

/-- adsize() of a descriptor of REF (R194). -/
theorem adsize_eq_sizes {d : Desc} (hd : d.adszFixed = false) (w : Work) : adsize d w = w.sizes.adsize := by
  rw [adsize, if_neg (by simp [hd])]
  rfl

/-- opsize() of a descriptor without a fixed operand size (R193). -/
theorem opsize_eq_sizes {d : Desc} (hd : d.opszFixed = false) (w : Work) : opsize d w = w.sizes.opsize := by
  rw [opsize, if_neg (by simp [hd])]
  rfl

theorem RefTags.readsUnder {d : Desc} (h : RefTags d) {w : Work} (hc : w.sizes.Legal) : w.ReadsUnder w.sizes d :=
  ⟨hc, adsize_eq_sizes h.adszFixed w, fun hiv => opsize_eq_sizes (h.opszFixed hiv) w⟩

/-- The DECODE after the lookup of `d` and its ModR/M stage, the register field and the form being `r` and `m`. -/
def Work.addressed (ref : DescRef) (key : Nat) (d : Desc) (r : BitVec 3) (m : Rm) (w : Work) : Work :=
  (w.ahead (if d.modRm then encodeRm w.sizes.adsize r m else []).length).setDi
    (if d.modRm then (select ref key d w).di.withRm w.sizes.adsize r m else (select ref key d w).di)

/-- The rest of a row of any place, over the bytes of the addressing form and of the immediate-class part. -/
theorem placeFinish_supplied {p : Place} {d : Desc} (hd : RefTags d) (hmember : placeIsMember p = true → d.modRm = true) {w : Work}
    (hc : w.sizes.Legal) {r : BitVec 3} {m : Rm} (hwf : d.modRm = true → m.wf w.sizes.adsize = true) {v : Word}
    (hv : ∀ t ∈ d.tags, ∀ k, t.part = some k → v.toNat < 256 ^ k.bytes w.sizes) {opb : Byte} (hopb : w.di.opb = some opb)
    {rest : List Byte}
    (h : w.ctx.remaining = (if d.modRm then encodeRm w.sizes.adsize r m else [])
      ++ ((d.tags.flatMap fun t => leBytes (t.width w.sizes) v.toNat) ++ rest)) :
    placeFinish r d p w = complete ((w.addressed (p.ref r) (p.key r) d r m).extracted w.sizes opb v d.tags) := by
  have hopb' : (w.addressed (p.ref r) (p.key r) d r m).di.opb = some opb := by
    unfold Work.addressed
    split <;> exact hopb
  have hsizes : (w.addressed (p.ref r) (p.key r) d r m).sizes = w.sizes := by
    unfold Work.addressed
    split <;> rfl
  have hoperands : operandStage d (w.addressed (p.ref r) (p.key r) d r m)
      = complete ((w.addressed (p.ref r) (p.key r) d r m).extracted w.sizes opb v d.tags) := by
    rw [← hsizes] at hv hc ⊢
    refine operandStage_supplied (rest := rest) (fun t ht => ⟨(hd.tags t ht).1, (hd.tags t ht).2, hv t ht⟩) (hd.readsUnder hc) hopb' ?_
    rw [hsizes]
    exact ahead_remaining h
  have hrow (ref : DescRef) (key : Nat) : finishRow ref key d w = operandStage d (w.addressed ref key d r m) := by
    have hstage := modRmStage_supplied hc (adsize_eq_sizes hd.adszFixed (select ref key d w)) hwf h
    rw [finishRow, hstage]
    rfl
  have hgroup (ref : DescRef) (key digit : Nat) (hm : d.modRm = true) : finishMember ref key groupDesc digit d w
      = operandStage d (w.addressed (.tg (key * 256 + digit)) (key * 256 + digit) d r m) := by
    rw [if_pos hm] at h
    have hstage := modRmStage_supplied (d := groupDesc) hc (adsize_eq_sizes rfl (select ref key groupDesc w)) (fun _ => hwf hm) h
    rw [finishMember, hstage, Work.addressed, if_pos hm]
    simp only [if_pos hm]
    rfl
  cases p with
  | tg1 b digit => exact (hgroup _ _ _ (hmember rfl)).trans hoperands
  | tg2 b digit => exact (hgroup _ _ _ (hmember rfl)).trans hoperands
  | _ => exact (hrow _ _).trans hoperands

/-- The DECODE at the end of a row that has read the instruction `x`. -/
def rowReads (p : RowSpec) (x : Insn) (w : Work) : Work :=
  ((w.opened x.reg p.place).addressed (p.place.ref x.reg) (p.place.key x.reg) p.desc x.reg x.rm).extracted w.sizes
    (p.place.opb x.reg) x.imm p.desc.tags

/-- The bytes of an instruction of a row, by its place and its descriptor. -/
def rowBytes (p : RowSpec) (c : SizeCtx) (x : Insn) : List Byte :=
  placeOpcode x.reg p.place ++ ((if p.desc.modRm then encodeRm c.adsize x.reg x.rm else [])
    ++ (p.desc.tags.flatMap fun t => leBytes (t.width c) x.imm.toNat))

theorem reads_ctx (p : RowSpec) (x : Insn) (w : Work) :
    (rowReads p x w).ctx = { w.ctx with pos := w.ctx.pos + (rowBytes p w.sizes x).length } := by
  have hsizes : (w.opened x.reg p.place).sizes = w.sizes := rfl
  simp only [rowReads, rowBytes, Work.extracted, Work.addressed, hsizes]
  simp [Work.opened, Work.setDi, Work.ahead, List.length_flatMap, Nat.add_assoc]

/-- The record that the stages leave is the one that the statement writes field by field. -/
theorem reads_di {p : RowSpec} (hd : RefTags p.desc) (hshape : p.row.shape.modRm = p.desc.modRm) {x : Insn} (hx : x.row = p.row)
    (w : Work) : (rowReads p x w).di = p.record w.sizes w.ctx.immExt x w.di := by
  have hsizes : (w.opened x.reg p.place).sizes = w.sizes := rfl
  simp only [rowReads, Work.extracted, Work.addressed, RowSpec.record, hx, hshape, hsizes]
  cases p.desc.modRm <;>
    simp [Di.withRm, Di.withSib, Di.withDisp, Work.setDi, Work.ahead, Work.opened, select, latchOpcode, hd.szovr]

theorem width_fits {c : SizeCtx} {x : Insn} {ts : List Tag} (himm : x.row.shape.imm.toList = ts.filterMap Tag.part)
    (hwf : x.immWf c = true) : ∀ t ∈ ts, ∀ k, t.part = some k → x.imm.toNat < 256 ^ k.bytes c := by
  intro t ht k hk
  have hmem : k ∈ x.row.shape.imm.toList := himm ▸ List.mem_filterMap.mpr ⟨t, ht, hk⟩
  exact (immWf_iff_of_some (Option.mem_toList.mp hmem)).mp hwf

theorem encode_eq_bytes {p : RowSpec} (hshape : ShapeAgrees p) {x : Insn} (hx : x.row = p.row) (c : SizeCtx) :
    encode c x = rowBytes p c x := by
  rw [encode_eq, Insn.operandBytes, immBytes_eq_flatMap, hx, hshape.imm, ← flatMap_width, hshape.opcode, hshape.modRm]
  rfl

theorem enter_remaining (s : State) : (enter s).ctx.remaining = s.remaining := by simp [State.remaining]

/-- A row of the forms tables over the bytes of one of its instructions. -/
theorem exec_supplied {p : RowSpec} (hp : p ∈ allRows) {s : State} {x : Insn} (hx : x.row = p.row) (hwf : x.wf (sizesAt s) = true)
    (hsizes : SizesLegal s) (hsupplies : Supplies s (encode (sizesAt s) x)) :
    exec p.row s = .next (complete (rowReads p x (enter s))).state := by
  have hd := allRows_refTags p hp
  have hshape := allRows_shapeAgrees p hp
  have hc := sizesAt_legal hsizes
  obtain ⟨-, hrmwf, himmwf⟩ := Insn.wf_iff.mp hwf
  obtain ⟨rest, hrem⟩ := hsupplies
  rw [encode_eq_bytes hshape hx, ← enter_remaining, rowBytes, List.append_assoc, List.append_assoc] at hrem
  rw [sizesAt_eq] at hc hrmwf himmwf hrem
  have himm : x.row.shape.imm.toList = p.desc.tags.filterMap Tag.part := by rw [hx, hshape.imm]
  have hrm : p.desc.modRm = true → x.rm.wf (enter s).sizes.adsize = true := fun hm =>
    (rmWf_iff_of_modRm (by rw [hx, hshape.modRm, hm])).mp hrmwf
  have hfinish := placeFinish_supplied (p := p.place) (w := (enter s).opened x.reg p.place) hd hshape.member hc hrm
    (width_fits himm himmwf) rfl (ahead_remaining hrem)
  rw [allRows_meaning p hp, placeMeaning_supplied hshape.aligned _ _ hrem, hfinish]
  rfl

/-- Every row of the forms tables decodes. -/
theorem allRows_decode : ∀ p ∈ allRows, p.Decodes := by
  intro p hp s x hx hwf hsizes hsupplies
  have hshape := allRows_shapeAgrees p hp
  obtain ⟨hregrow, -⟩ := Insn.wf_iff.mp hwf
  have hregrow := (regRowWf_iff (hx ▸ hshape.escape) (sizesAt s)).mpr hregrow
  refine ⟨allRows_resolve p hp (sizesAt s).opszSeen x.reg (hx ▸ hregrow), ?_⟩
  rw [exec_supplied hp hx hwf hsizes hsupplies, complete, Flow.state_ended, reads_ctx,
    reads_di (allRows_refTags p hp) hshape.modRm hx, ← encode_eq_bytes hshape hx, ← sizesAt_eq]
  simp only [RowSpec.after, enter_pos, enter_immExt, enter_defOpsize, enter_defAdsize]

theorem mem_allRows {p : RowSpec} : p ∈ allRows ↔ p ∈ arithRows ∨ p ∈ shiftBitRows ∨ p ∈ moveStackRows ∨ p ∈ controlRows
    ∨ p ∈ stringIoRows ∨ p ∈ systemRows ∨ p ∈ flagsMiscRows := by
  simp only [allRows, List.mem_append]

/-! The statements about the rows of each forms table. -/

/-- Settles O17: the rows of 41_arith.md are among those that decode. -/
theorem arithRowsDecode : Obligations.ArithRowsDecode :=
  fun p hp => allRows_decode p (mem_allRows.mpr (.inl hp))

/-- Settles O18: the rows of 42_shift_bit.md are among those that decode. -/
theorem shiftBitRowsDecode : Obligations.ShiftBitRowsDecode :=
  fun p hp => allRows_decode p (mem_allRows.mpr (.inr (.inl hp)))

/-- Settles O19: the rows of 43_move_stack.md are among those that decode, XCHG66 with its own place. -/
theorem moveStackRowsDecode : Obligations.MoveStackRowsDecode :=
  fun p hp => allRows_decode p (mem_allRows.mpr (.inr (.inr (.inl hp))))

/-- Settles O20: the rows of 44_control.md are among those that decode. -/
theorem controlRowsDecode : Obligations.ControlRowsDecode :=
  fun p hp => allRows_decode p (mem_allRows.mpr (.inr (.inr (.inr (.inl hp)))))

/-- Settles O21: the rows of 45_string_io.md are among those that decode, REG being what the last tag that writes it says. -/
theorem stringIoRowsDecode : Obligations.StringIoRowsDecode :=
  fun p hp => allRows_decode p (mem_allRows.mpr (.inr (.inr (.inr (.inr (.inl hp))))))

/-- Settles O22: the rows of 46_system.md are among those that decode. -/
theorem systemRowsDecode : Obligations.SystemRowsDecode :=
  fun p hp => allRows_decode p (mem_allRows.mpr (.inr (.inr (.inr (.inr (.inr (.inl hp)))))))

/-- Settles O23: the rows of 47_flags_misc.md are among those that decode. -/
theorem flagsMiscRowsDecode : Obligations.FlagsMiscRowsDecode :=
  fun p hp => allRows_decode p (mem_allRows.mpr (.inr (.inr (.inr (.inr (.inr (.inr hp)))))))

end Sys2Proof.Machine

/-! SUPPORT. The rows that no instruction's meaning ends: a prefix, the escape, a group-dispatch entry (40_decode_pipeline.md R165, R169 to
R175). -/

namespace Sys2Proof.Machine

open Sys2Proof.Claims

/-! The prefix rows. -/

theorem exec_of_mem_prefixBits : ∀ p ∈ prefixBits, exec p.1 = prefixRow p.2 := by
  refine List.forall_iff_forall_mem.mp ?_
  and_intros <;> rfl

/-- The bit of a prefix, and which of them are the two size overrides (30_encoding.md R112). -/
theorem prefixBits_record : ∀ p ∈ prefixBits, 1#11 <<< p.2 = BitVec.ofNat 11 (2 ^ p.2)
    ∧ (p.2 == 9) = (p.1 == .prefixOpsize) ∧ (p.2 == 10) = (p.1 == .prefixAdsize) := by decide

theorem prefixRow_of_lt (bit : Nat) {s : State} (h : s.pos < s.srcLen) :
    prefixRow bit s = .next (Flow.go (recordPrefix bit (enter s).skip)).state := by
  rw [prefixRow, readByte_of_lt (by simpa using h)]

/-- A prefix row that leaves the DECODE in progress has found a byte. -/
theorem prefixRow_goes {bit : Nat} {s t : State} (h : prefixRow bit s = .next t) (ht : t.status = none) :
    t = (Flow.go (recordPrefix bit (enter s).skip)).state := by
  by_cases hlt : s.pos < s.srcLen
  · rw [prefixRow_of_lt bit hlt] at h
    exact (Host.Outcome.next.inj h).symm
  · rw [prefixRow, readByte_of_le (by simpa using hlt)] at h
    cases h
    exact absurd ht (by simp [raise, Flow.state])

/-- Recording a prefix again moves POS alone. -/
theorem recordPrefix_repeated (bit : Nat) (w : Work) :
    (Flow.go (recordPrefix bit (enter (Flow.go (recordPrefix bit w)).state).skip)).state
      = { (Flow.go (recordPrefix bit w)).state with pos := w.ctx.pos + 1 } := by
  rw [enter_state_go]
  simp [recordPrefix, Flow.state, Work.setDi, Work.skip, BitVec.or_assoc]

/-- Settles O24: a prefix row consumes its byte and sets its bit, and setting it again changes nothing. -/
theorem prefixRowsRecord : Obligations.PrefixRowsRecord := by
  refine ⟨fun p hp s hlt => ?_, fun p hp s t u ht hts hu hus => ?_⟩
  · obtain ⟨hbit, hopsz, hadsz⟩ := prefixBits_record p hp
    rw [exec_of_mem_prefixBits p hp, prefixRow_of_lt p.2 hlt, ← hbit, ← hopsz, ← hadsz, ← enter_pos s]
    rfl
  · obtain ⟨bit, hbit⟩ := exec_of_mem_prefixRows hp
    rw [hbit] at ht hu
    have htgo := prefixRow_goes ht hts
    have hugo := prefixRow_goes hu hus
    rw [hugo, htgo, recordPrefix_repeated]
    rfl

/-! The escape's row. -/

/-- The SZOVR of REF's entries: a fixed operand size and no fixed address size (R172). -/
theorem refT2_szovr : ∀ e ∈ refT2, e.2.szovr = ⟨.none, e.2.fixedOp⟩ := by decide +kernel

theorem refTG_szovr : ∀ e ∈ refTG, e.2.szovr = ⟨.none, e.2.fixedOp⟩ := by decide +kernel

/-- Settles O25: the second byte is read behind the latched 0F and looked up. -/
theorem escapeRow_holds : Obligations.EscapeRow := by
  refine ⟨fun s hend => ?_, fun s b ⟨rest, hrem⟩ => ?_⟩
  · have hfirst : (enter s).ctx.pos < (enter s).ctx.srcLen := by simp only [enter_pos, enter_srcLen]; omega
    have hsecond : (latchOpcode 0x0F (enter s).skip).ctx.srcLen ≤ (latchOpcode 0x0F (enter s).skip).ctx.pos := by
      simp only [latchOpcode, Work.setDi, Work.skip, enter_pos, enter_srcLen]
      omega
    rw [exec_escape0F, escapeRow_eq, readByte_of_lt hfirst, readByte_of_le hsecond, raise_of_not_fault rfl, ← enter_pos s]
    rfl
  · rw [← enter_remaining] at hrem
    have hrem2 : (latchOpcode 0x0F (enter s).skip).ctx.remaining = b :: rest := skip_remaining hrem
    rw [exec_escape0F, escapeRow_eq, readByte_cons hrem, readByte_cons hrem2, ← enter_pos s]
    refine ⟨fun d hd => ?_, fun hnull => ?_⟩
    · rw [← refT2_szovr _ (mem_of_rowAt hd)]
      simp only [secondLookup, hd]
      rfl
    · simp only [secondLookup, hnull, lookupFailed]
      rw [raise_of_not_fault rfl]
      rfl

/-! The group-dispatch rows. -/

/-- A dispatch entry is at an opcode of T1 or of T2. -/
def placeIsPrimary : Place → Bool
  | .t1 _ => true
  | .t2 _ => true
  | _ => false

/-- The dispatch row at a place, one of T1 where it is not one of T2. -/
def placeDispatch : Place → State → Result
  | .t2 b => twoByteDispatch (rowAt refTG) b groupDesc
  | p => oneByteDispatch (rowAt refTG) (p.opb 0) groupDesc

theorem dispatchRows_meaning : ∀ p ∈ dispatchRows, exec p.row = placeDispatch p.place := by
  refine List.forall_iff_forall_mem.mp ?_
  and_intros <;> rfl

/-- A dispatch entry's constructor has the shape of its place, and its descriptor is the one that all of them share (R134). -/
structure IsDispatch (p : RowSpec) : Prop where
  primary : placeIsPrimary p.place = true
  desc : p.desc = groupDesc
  modRm : p.row.shape.modRm = true
  opcode : ∀ r : BitVec 3, p.row.shape.opcode = placeOpcode r p.place

theorem dispatchRows_isDispatch : ∀ p ∈ dispatchRows, IsDispatch p := by
  have hall : ∀ p ∈ dispatchRows, (placeIsPrimary p.place = true ∧ p.desc = groupDesc) ∧ p.row.shape.modRm = true
      ∧ ∀ r : BitVec 3, p.row.shape.opcode = placeOpcode r p.place := by decide +kernel
  intro p hp
  obtain ⟨⟨hprimary, hdesc⟩, hmodRm, hopcode⟩ := hall p hp
  exact ⟨hprimary, hdesc, hmodRm, hopcode⟩

theorem groupDesc_refTags : RefTags groupDesc := ⟨rfl, rfl, fun _ => rfl, fun t ht => by cases ht⟩

/-- What follows the opcode bytes of a dispatch entry's row. -/
def dispatchFinish (r : BitVec 3) (p : Place) (w : Work) : Flow :=
  (modRmStage groupDesc (select (p.ref r) (p.key r) groupDesc w)).andThen (resolveGroup (rowAt refTG) (p.key r))

/-- The dispatch row at a place reads its opcode bytes and goes on behind them. -/
theorem placeDispatch_supplied {p : Place} (hp : placeIsPrimary p = true) (r : BitVec 3) {s : State} {rest : List Byte}
    (h : (enter s).ctx.remaining = placeOpcode r p ++ rest) :
    placeDispatch p s = .next (dispatchFinish r p ((enter s).opened r p)).state := by
  cases p with
  | t1 b => exact congrArg (fun f => Host.Outcome.next (Flow.state f)) (readByte_cons h _)
  | t2 b =>
    have hsecond : (latchOpcode 0x0F (enter s).skip).ctx.remaining = b :: rest := skip_remaining h
    exact congrArg (fun f => Host.Outcome.next (Flow.state f)) ((readByte_cons h _).trans (readByte_cons hsecond _))
  | _ => exact absurd hp (by simp [placeIsPrimary])

/-- A dispatch entry's row over the bytes of its opcode and of an addressing form looks its digit up behind them. -/
theorem dispatchRows_supplied {p : RowSpec} (hp : p ∈ dispatchRows) {s : State} {r : BitVec 3} {m : Rm}
    (hwf : m.wf (sizesAt s).adsize = true) (hsizes : SizesLegal s)
    (hsupplies : Supplies s (p.row.shape.opcode ++ encodeRm (sizesAt s).adsize r m)) :
    exec p.row s
      = .next (resolveGroup (rowAt refTG) (p.place.key r) (rowReads p ⟨p.row, r, m, 0⟩ (enter s))).state := by
  obtain ⟨hprimary, hdesc, -, hopcode⟩ := dispatchRows_isDispatch p hp
  have hc := sizesAt_legal hsizes
  obtain ⟨rest, hrem⟩ := hsupplies
  rw [← enter_remaining, hopcode r, List.append_assoc] at hrem
  rw [sizesAt_eq] at hc hwf hrem
  have hstage := modRmStage_supplied (d := groupDesc) hc (adsize_eq_sizes rfl _) (fun _ => hwf)
    (w := select (p.place.ref r) (p.place.key r) groupDesc ((enter s).opened r p.place)) (ahead_remaining hrem)
  rw [dispatchRows_meaning p hp, placeDispatch_supplied hprimary r hrem, dispatchFinish, hstage, rowReads, hdesc]
  rfl

/-- The DECODE behind the addressing form of a dispatch entry, its digit in REG. -/
theorem rowReads_of_isDispatch {p : RowSpec} (h : IsDispatch p) (s : State) (r : BitVec 3) (m : Rm) :
    rowReads p ⟨p.row, r, m, 0⟩ (enter s) = ⟨{ (enter s).ctx with
        pos := s.pos + p.row.shape.opcode.length + (encodeRm (sizesAt s).adsize r m).length },
      p.record (sizesAt s) s.immExt ⟨p.row, r, m, 0⟩ (enter s).di⟩ := by
  obtain ⟨-, hdesc, hmodRm, hopcode⟩ := h
  have hdi := reads_di (p := p) (hdesc ▸ groupDesc_refTags) (by rw [hmodRm, hdesc]; rfl) (x := ⟨p.row, r, m, 0⟩) rfl (enter s)
  have hctx := reads_ctx p ⟨p.row, r, m, 0⟩ (enter s)
  have hlen : (rowBytes p (enter s).sizes ⟨p.row, r, m, 0⟩).length
      = p.row.shape.opcode.length + (encodeRm (sizesAt s).adsize r m).length := by
    rw [rowBytes, hdesc, hopcode r, sizesAt_eq]
    simp [groupDesc, refDesc, Desc.modRm]
  rw [hlen, enter_pos, ← Nat.add_assoc] at hctx
  rw [enter_immExt, ← sizesAt_eq] at hdi
  exact congrArg₂ Work.mk hctx hdi

theorem record_reg_of_isDispatch {p : RowSpec} (h : IsDispatch p) (c : SizeCtx) (ext : ImmExt) (r : BitVec 3) (m : Rm) (e : Di) :
    (p.record c ext ⟨p.row, r, m, 0⟩ e).reg = some r := by
  simp [RowSpec.record, h.desc, h.modRm, groupDesc, refDesc]

/-- Settles O26: the digit is the register field of the form, and REF's group map answers it. -/
theorem dispatchRows_hold : Obligations.DispatchRows := by
  intro p hp s r m hwf hsizes hsupplies
  have hdispatch := dispatchRows_isDispatch p hp
  have hreg := record_reg_of_isDispatch hdispatch (sizesAt s) s.immExt r m (enter s).di
  rw [dispatchRows_supplied hp hwf hsizes hsupplies, rowReads_of_isDispatch hdispatch]
  refine ⟨fun d hd => ?_, fun hnone => ?_⟩
  · rw [resolveGroup_present hreg hd, ← refTG_szovr _ (mem_of_rowAt hd)]
    rfl
  · rw [resolveGroup_absent hreg hnone, lookupFailed, raise_of_not_fault rfl]
    rfl

end Sys2Proof.Machine

/-! SUPPORT. SZOVR after a success (40_decode_pipeline.md R172): each row of the table is on one of the lists, and a row that succeeds
leaves in SZOVR what its lookup loaded. -/

namespace Sys2Proof.Machine

open Sys2Proof.Claims

/-! The rows of the table. -/

/-- The prefixes, the escape, the groups and the rows of the forms tables. -/
def tableRows : List Instr := prefixRows ++ .escape0F :: (dispatchRows ++ allRows).map RowSpec.row

/-- The set of the rows of a list, as the bits of a number. -/
def rowMask (is : List Instr) : Nat := is.foldr (fun i m => 2 ^ i.ctorIdx ||| m) 0

theorem mem_of_rowMask {is : List Instr} {i : Instr} (h : (rowMask is).testBit i.ctorIdx = true) : i ∈ is := by
  induction is with
  | nil => simp [rowMask] at h
  | cons j js ih =>
    have hbits : (2 ^ j.ctorIdx ||| rowMask js).testBit i.ctorIdx = true := h
    rw [Nat.testBit_or, Bool.or_eq_true, Nat.testBit_two_pow, decide_eq_true_iff] at hbits
    rcases hbits with hidx | htail
    · have hij : j = i := by rw [← Instr.ofNat_ctorIdx j, hidx, Instr.ofNat_ctorIdx]
      exact hij ▸ List.mem_cons_self
    · exact List.mem_cons_of_mem j (ih htail)

theorem rowMask_tableRows : rowMask tableRows = 2 ^ 410 - 1 := by decide +kernel

theorem ctorIdx_lt (i : Instr) : i.ctorIdx < 410 := by
  cases i <;> exact Nat.le_of_ble_eq_true rfl

/-- The lists hold every row of the table. -/
theorem mem_tableRows (i : Instr) : i ∈ tableRows := by
  refine mem_of_rowMask ?_
  rw [rowMask_tableRows, Nat.testBit_two_pow_sub_one]
  exact decide_eq_true (ctorIdx_lt i)

theorem row_cases (i : Instr) :
    i ∈ prefixRows ∨ i = .escape0F ∨ (∃ p ∈ dispatchRows, p.row = i) ∨ ∃ p ∈ allRows, p.row = i := by
  simpa [tableRows, or_assoc, or_and_right, exists_or] using mem_tableRows i

/-! What a stage that has succeeded leaves. -/

/-- If a stage has succeeded, the record satisfies `R`. -/
def Flow.OkWith (R : Di → Prop) (f : Flow) : Prop := f.state.status = some .ok → ∀ r, f.state.di = some r → R r

section
variable {R : Di → Prop}

theorem go_okWith (w : Work) : (Flow.go w).OkWith R := nofun

theorem raise_okWith {e : Status} (he : e ≠ .ok) (w : Work) : (raise e w).OkWith R :=
  fun h => absurd (Option.some.inj h) he

theorem complete_okWith {w : Work} (h : R w.di) : (complete w).OkWith R :=
  fun _ _ hr => Option.some.inj hr ▸ h

theorem readByte_okWith {w : Work} {k : Byte → Work → Flow} (hk : ∀ b w', (k b w').OkWith R) : (readByte w k).OkWith R := by
  by_cases h : w.ctx.pos < w.ctx.srcLen
  · rw [readByte_of_lt h]
    exact hk _ _
  · rw [readByte_of_le (Nat.not_lt.mp h)]
    exact raise_okWith (by decide) w

theorem lookupFailed_okWith {e : Status} (he : e ≠ .ok) (key : Nat) (w : Work) : (lookupFailed key e w).OkWith R :=
  raise_okWith he _

theorem resolveGroup_okWith (tg : Nat → Option Desc) (key : Nat) (w : Work) : (resolveGroup tg key w).OkWith R := by
  unfold resolveGroup
  split
  · split
    · exact go_okWith _
    · exact lookupFailed_okWith (by decide) _ _
  · exact lookupFailed_okWith (by decide) _ _

theorem secondLookup_okWith (t2 : Nat → Option Desc) (b : Byte) (w : Work) : (secondLookup t2 b w).OkWith R := by
  unfold secondLookup
  split
  · exact go_okWith _
  · exact lookupFailed_okWith (by decide) _ _

/-- What follows a stage that only fails in error. -/
theorem Flow.Leads.okWith_andThen {P : Work → Prop} {w : Work} {f : Flow} {k : Work → Flow} (hf : f.Leads (· ≠ .ok) P w)
    (hk : ∀ w', w.Grows w' → (k w').OkWith R) : (f.andThen k).OkWith R := by
  cases f with
  | go w' => exact hk w' hf.1
  | ended s =>
    obtain ⟨e, w', he, -, hs⟩ := hf
    exact hs ▸ raise_okWith he w'

end

/-- The record names `ref` and holds the SZOVR of the descriptor `d`. -/
def Di.Loaded (ref : DescRef) (d : Desc) (r : Di) : Prop := r.desc = some ref ∧ r.szovr = d.szovr

theorem operandStage_okWith {ref : DescRef} {d e : Desc} {w : Work} (hw : w.di.Loaded ref e) (hopb : w.di.opb.isSome = true) :
    (operandStage d w).OkWith (Di.Loaded ref e) := by
  rw [operandStage, extractTags_operands]
  refine (extractTags_leads (by decide) (.inl (by decide)) (fun _ => id) hopb).okWith_andThen fun w' hgrows => ?_
  exact complete_okWith ⟨hgrows.desc.trans hw.1, hgrows.szovr.trans hw.2⟩

theorem finishRow_okWith (ref : DescRef) (key : Nat) (d : Desc) {w : Work} (hopb : w.di.opb.isSome = true) :
    (finishRow ref key d w).OkWith (Di.Loaded ref d) := by
  refine (modRmStage_leads (by decide) (.inl (by decide))).okWith_andThen fun w' hgrows => ?_
  exact operandStage_okWith ⟨hgrows.desc, hgrows.szovr⟩ (by rw [hgrows.opb]; exact hopb)

theorem finishMember_okWith (ref : DescRef) (key : Nat) (p : Desc) (digit : Nat) (d : Desc) {w : Work}
    (hopb : w.di.opb.isSome = true) :
    (finishMember ref key p digit d w).OkWith (Di.Loaded (.tg (key * 256 + digit)) d) := by
  refine (modRmStage_leads (by decide) (.inl (by decide))).okWith_andThen fun w' hgrows => ?_
  exact operandStage_okWith (w := select _ _ d w') ⟨rfl, rfl⟩ (by rw [show (select _ _ d w').di.opb = _ from hgrows.opb]; exact hopb)

/-- A success of the row at a place, whatever the bytes are, names its entry at some register. -/
theorem placeMeaning_loads {p : Place} (hp : placeAligned p = true) (d : Desc) (s : State) :
    ∃ f : Flow, placeMeaning d p s = .next f.state ∧ f.OkWith fun r => ∃ x, r.Loaded (p.ref x) d := by
  have hat {f : Flow} (x : BitVec 3) (hf : f.OkWith (Di.Loaded (p.ref x) d)) : f.OkWith fun r => ∃ x, r.Loaded (p.ref x) d :=
    fun hok r hr => ⟨x, hf hok r hr⟩
  cases p with
  | t1 b => exact ⟨_, rfl, readByte_okWith fun _ _ => hat 0 (finishRow_okWith _ _ d rfl)⟩
  | xchg66 => exact ⟨_, rfl, readByte_okWith fun _ _ => hat 0 (finishRow_okWith _ _ d rfl)⟩
  | tg1 b digit => exact ⟨_, rfl, readByte_okWith fun _ _ => hat 0 (finishMember_okWith _ _ _ digit d rfl)⟩
  | t2 b => exact ⟨_, rfl, readByte_okWith fun _ _ => readByte_okWith fun _ _ => hat 0 (finishRow_okWith _ _ d rfl)⟩
  | tg2 b digit =>
    exact ⟨_, rfl, readByte_okWith fun _ _ => readByte_okWith fun _ _ => hat 0 (finishMember_okWith _ _ _ digit d rfl)⟩
  | t1Reg base =>
    have hregs := regByte_of_aligned base (by simpa [placeAligned] using hp)
    refine ⟨_, rfl, readByte_okWith fun b _ => hat (lowField b) ?_⟩
    rw [Place.ref, Place.opb, (hregs (lowField b)).2.1]
    exact finishRow_okWith _ _ d rfl
  | t2Reg base =>
    have hregs := regByte_of_aligned base (by simpa [placeAligned] using hp)
    refine ⟨_, rfl, readByte_okWith fun _ _ => readByte_okWith fun b _ => hat (lowField b) ?_⟩
    rw [Place.ref, Place.opb, (hregs (lowField b)).2.1]
    exact finishRow_okWith _ _ d rfl

theorem placeDispatch_okWith (p : Place) (s : State) : ∃ f : Flow, placeDispatch p s = .next f.state ∧ f.OkWith fun _ => False := by
  have hfinish (ref : DescRef) (key : Nat) (w : Work) :
      ((modRmStage groupDesc (select ref key groupDesc w)).andThen (resolveGroup (rowAt refTG) key)).OkWith fun _ => False :=
    (modRmStage_leads (by decide) (.inl (by decide))).okWith_andThen fun w' _ => resolveGroup_okWith _ _ w'
  cases p with
  | t2 b => exact ⟨_, rfl, readByte_okWith fun _ _ => readByte_okWith fun _ _ => hfinish _ _ _⟩
  | _ => exact ⟨_, rfl, readByte_okWith fun _ _ => hfinish _ _ _⟩

/-- The eight bits of a row's SZOVR are those of the entry that DESC names, at every register with which there is one. -/
theorem allRows_szovrByte : ∀ p ∈ allRows, ∀ x : BitVec 3, ∀ d ∈ (p.place.ref x).resolve refTables Ref.xchg66_90,
    p.desc.szovr.byte.toNat = (if d.adszFixed = true then d.fixedAd.code.toNat else 0) <<< 4
      ||| (if d.opszFixed = true then d.fixedOp.code.toNat else 0) := by decide +kernel

/-- Settles O55: only a row of the forms tables succeeds, and then SZOVR is what its lookup loaded. -/
theorem szovrByte : Obligations.SzovrByte := by
  intro i s t r ref d ht hok hr href hd
  have hnever {f : Flow} (hf : exec i s = .next f.state) (h : f.OkWith fun _ => False) : False := by
    rw [hf] at ht
    cases Host.Outcome.next.inj ht
    exact h hok r hr
  rcases row_cases i with hi | rfl | ⟨p, hp, rfl⟩ | ⟨p, hp, rfl⟩
  · obtain ⟨bit, hbit⟩ := exec_of_mem_prefixRows hi
    exact (hnever (congrFun hbit s) (readByte_okWith fun _ _ => go_okWith _)).elim
  · refine (hnever ((congrFun exec_escape0F s).trans (escapeRow_eq _ s)) ?_).elim
    exact readByte_okWith fun _ _ => readByte_okWith fun b w => secondLookup_okWith _ b _
  · obtain ⟨f, hf, hnot⟩ := placeDispatch_okWith p.place s
    exact (hnever ((congrFun (dispatchRows_meaning p hp) s).trans hf) hnot).elim
  · obtain ⟨f, hf, hloads⟩ := placeMeaning_loads (allRows_shapeAgrees p hp).aligned p.desc s
    rw [allRows_meaning p hp, hf] at ht
    cases Host.Outcome.next.inj ht
    obtain ⟨x, hdesc, hszovr⟩ := hloads hok r hr
    rw [hszovr]
    rw [hdesc] at href
    exact allRows_szovrByte p hp x d (Option.some.inj href ▸ hd)

end Sys2Proof.Machine

/-! SUPPORT. DECODE reads nothing but the bytes to come, the defaults and FIXED_IMM_EXT: two points of two DECODEs that agree in these,
the second with more bytes to come perhaps, stay so through every stage, until the first finds its source at its end (40_decode_pipeline.md
R198, R200). -/

namespace Sys2Proof.Machine

open Sys2Proof.Claims

/-! Two DECODEs side by side. -/

/-- Two points of two DECODEs that began at `p` and at `q`: the second has the bytes `more` to come behind those of the first. -/
structure Work.Beside (more : List Byte) (p q : Nat) (w w' : Work) : Prop where
  remaining : w'.ctx.remaining = w.ctx.remaining ++ more
  di : w'.di = w.di
  defOpsize : w'.ctx.defOpsize = w.ctx.defOpsize
  defAdsize : w'.ctx.defAdsize = w.ctx.defAdsize
  immExt : w'.ctx.immExt = w.ctx.immExt
  pos : w.ctx.pos + q = w'.ctx.pos + p

/-- What a stage leaves of each: both go on, or both have ended with the same record and STATUS as many bytes on, or the first has ended
for want of bytes that the second has. -/
inductive Flow.Beside (more : List Byte) (p q : Nat) : Flow → Flow → Prop where
  | go {w w' : Work} (h : w.Beside more p q w') : Flow.Beside more p q (.go w) (.go w')
  | ended {s s' : State} (di : s'.di = s.di) (status : s'.status = s.status) (pos : s.pos + q = s'.pos + p) :
      Flow.Beside more p q (.ended s) (.ended s')
  | short {s : State} {f' : Flow} (bytes : more ≠ []) (status : s.status = some .endOfStream) : Flow.Beside more p q (.ended s) f'

/-- A stage that keeps two DECODEs side by side. -/
def Uniform (more : List Byte) (p q : Nat) (k : Work → Flow) : Prop :=
  ∀ w w' : Work, w.Beside more p q w' → (k w).Beside more p q (k w')

section
variable {more : List Byte} {p q : Nat} {w w' : Work}

/-- A write to the record. -/
theorem Work.Beside.setDi (h : w.Beside more p q w') {d d' : Di} (hd : d' = d) : (w.setDi d).Beside more p q (w'.setDi d') :=
  ⟨h.remaining, hd, h.defOpsize, h.defAdsize, h.immExt, h.pos⟩

theorem Work.Beside.ahead (h : w.Beside more p q w') {bs rest : List Byte} (hrem : w.ctx.remaining = bs ++ rest) :
    (w.ahead bs.length).Beside more p q (w'.ahead bs.length) where
  remaining := by
    rw [ahead_remaining hrem]
    exact ahead_remaining (by rw [h.remaining, hrem, List.append_assoc])
  di := h.di
  defOpsize := h.defOpsize
  defAdsize := h.defAdsize
  immExt := h.immExt
  pos := by
    have hpos := h.pos
    simp only [Work.ahead]
    omega

theorem Work.Beside.opsize (h : w.Beside more p q w') (d : Desc) : Machine.opsize d w' = Machine.opsize d w := by
  rw [Machine.opsize, h.di, h.defOpsize, ← Machine.opsize]

theorem Work.Beside.adsize (h : w.Beside more p q w') (d : Desc) : Machine.adsize d w' = Machine.adsize d w := by
  rw [Machine.adsize, h.di, h.defAdsize, ← Machine.adsize]

/-! The stages' combinators. -/

theorem go_uniform : Uniform more p q .go := fun _ _ => .go

/-- A stage behind a write to the record that the record decides. -/
theorem Uniform.after {k : Work → Flow} (hk : Uniform more p q k) (g : Di → Di) : Uniform more p q fun w => k (w.setDi (g w.di)) :=
  fun _ _ h => hk _ _ (h.setDi (congrArg g h.di))

theorem Uniform.andThen {j k : Work → Flow} (hj : Uniform more p q j) (hk : Uniform more p q k) :
    Uniform more p q fun w => (j w).andThen k := by
  intro w w' h
  have hf := hj w w' h
  change ((j w).andThen k).Beside more p q ((j w').andThen k)
  generalize j w = f, j w' = f' at hf ⊢
  cases hf with
  | go h => exact hk _ _ h
  | ended hdi hstatus hpos => exact .ended hdi hstatus hpos
  | short hmore hstatus => exact .short hmore hstatus

theorem Uniform.ite {c : Work → Prop} [DecidablePred c] (hc : ∀ {w w' : Work}, w.Beside more p q w' → (c w' ↔ c w)) {j k : Work → Flow}
    (hj : Uniform more p q j) (hk : Uniform more p q k) : Uniform more p q fun w => if c w then j w else k w := by
  intro w w' h
  by_cases hw : c w
  · simpa only [if_pos hw, if_pos ((hc h).mpr hw)] using hj w w' h
  · simpa only [if_neg hw, if_neg (mt (hc h).mp hw)] using hk w w' h

theorem raise_uniform (e : Status) : Uniform more p q (raise e) := fun _ _ h => .ended (congrArg some h.di) rfl h.pos

theorem complete_uniform : Uniform more p q complete := fun _ _ h => .ended (congrArg some h.di) rfl h.pos

theorem lookupFailed_uniform (key : Nat) (e : Status) : Uniform more p q (lookupFailed key e) :=
  (raise_uniform e).after fun d => { d with opkey := some key, desc := some .null }

/-! The cursor. -/

/-- The bytes of a read that the source can supply are those of a value. -/
theorem exists_leBytes {n : Nat} (h : w.ctx.pos + n ≤ w.ctx.srcLen) :
    ∃ v rest, v < 256 ^ n ∧ w.ctx.remaining = leBytes n v ++ rest := by
  have hlen : w.ctx.srcLen - w.ctx.pos = n + (w.ctx.srcLen - w.ctx.pos - n) := by omega
  have htake := Memory.takeLE_bytes w.ctx.src w.ctx.pos n (w.ctx.srcLen - w.ctx.pos - n)
  rw [← hlen] at htake
  exact ⟨_, _, (takeLE_eq_some_iff n _ _ _).mp htake⟩

/-- A read that the first source cannot supply. -/
theorem Work.Beside.readN_short (h : w.Beside more p q w') {n : Nat} (hn : n = 1 ∨ n = 2 ∨ n = 4) (hshort : w.ctx.srcLen < w.ctx.pos + n)
    (k : Nat → Work → Flow) : (readN n w k).Beside more p q (readN n w' k) := by
  rw [Machine.readN_short hn hshort]
  by_cases hmore : more = []
  · have hlen := congrArg List.length h.remaining
    simp only [hmore, List.append_nil, State.remaining, Memory.bytes_length] at hlen
    rw [Machine.readN_short hn (by omega)]
    exact raise_uniform .endOfStream w w' h
  · exact .short hmore rfl

theorem readN_uniform (n : Nat) {k : Nat → Work → Flow} (hk : ∀ v, Uniform more p q (k v)) : Uniform more p q fun w => readN n w k := by
  intro w w' h
  by_cases hn : n = 1 ∨ n = 2 ∨ n = 4
  case neg =>
    simp only [readN_width hn]
    exact raise_uniform .configAssert w w' h
  by_cases hsupply : w.ctx.pos + n ≤ w.ctx.srcLen
  · obtain ⟨v, rest, hv, hrem⟩ := exists_leBytes hsupply
    have hrem' : w'.ctx.remaining = leBytes n v ++ (rest ++ more) := by rw [h.remaining, hrem, List.append_assoc]
    have hahead := h.ahead hrem
    rw [leBytes_length] at hahead
    simp only [readN_leBytes hn hv hrem, readN_leBytes hn hv hrem']
    exact hk v _ _ hahead
  · exact h.readN_short hn (Nat.not_le.mp hsupply) k

theorem readByte_uniform {k : Byte → Work → Flow} (hk : ∀ b, Uniform more p q (k b)) : Uniform more p q fun w => readByte w k :=
  readN_uniform 1 fun v => hk (BitVec.ofNat 8 v)

/-! The ModR/M stage and the operand stage. -/

theorem readDisp_uniform (n : Nat) (c : SizeClass) : Uniform more p q (readDisp n c) :=
  readN_uniform n fun v => go_uniform.after fun d => { d with disp := some (sextBytes n v), dispSize := c }

theorem disp32_uniform (mod : BitVec 2) (rm : BitVec 3) : Uniform more p q (disp32 mod rm) :=
  Uniform.ite (fun h => by rw [h.di]) (readDisp_uniform 4 .long) <|
    Uniform.ite (fun _ => Iff.rfl) (readDisp_uniform 1 .byte) <|
      Uniform.ite (fun _ => Iff.rfl) (readDisp_uniform 4 .long) go_uniform

theorem disp16_uniform (mod : BitVec 2) (rm : BitVec 3) : Uniform more p q (disp16 mod rm) :=
  Uniform.ite (fun _ => Iff.rfl) (readDisp_uniform 2 .word) <|
    Uniform.ite (fun _ => Iff.rfl) (readDisp_uniform 1 .byte) <|
      Uniform.ite (fun _ => Iff.rfl) (readDisp_uniform 2 .word) go_uniform

theorem addressing_uniform (a : SizeClass) (mod : BitVec 2) (rm : BitVec 3) : Uniform more p q (addressing a mod rm) := by
  cases a
  case long =>
    exact Uniform.ite (fun _ => Iff.rfl)
      (readByte_uniform fun b => (disp32_uniform mod rm).after fun d =>
        { d with scale := 2 ^ (topField b).toNat, index := some (midField b), base := some (lowField b) })
      (disp32_uniform mod rm)
  case word => exact disp16_uniform mod rm
  all_goals exact raise_uniform .configAssert

theorem modRm_uniform (d : Desc) : Uniform more p q (modRm d) := by
  refine readByte_uniform fun b => ?_
  have hform : Uniform more p q fun w => if topField b = 3 then Flow.go w else addressing (adsize d w) (topField b) (lowField b) w := by
    refine Uniform.ite (fun _ => Iff.rfl) go_uniform fun w w' h => ?_
    simp only [h.adsize d]
    exact addressing_uniform _ _ _ w w' h
  exact hform.after fun d => { d with mod := some (topField b), reg := some (midField b), rm := some (lowField b) }

theorem modRmStage_uniform (d : Desc) : Uniform more p q (modRmStage d) :=
  Uniform.ite (fun _ => Iff.rfl) (modRm_uniform d) go_uniform

theorem readImm_uniform (n : Nat) (f : Nat → Word) : Uniform more p q (readImm n f) :=
  readN_uniform n fun v => go_uniform.after fun d => { d with imm := some (f v) }

theorem extractTag_uniform (d : Desc) (t : Tag) : Uniform more p q (extractTag d t) := by
  intro w w' h
  cases t
  case ib | iw | il | iv | ibs | ov | jb | jv =>
    simp only [extractTag, h.immExt, h.opsize, h.adsize]
    exact readImm_uniform _ _ w w' h
  case al | eax | cl | dx | fs | gs | yb | yv => exact go_uniform.after (fun r => { r with reg := some _ }) w w' h
  case zb | zv | zd | seg2 => exact go_uniform.after (fun r => { r with reg := r.opb.map _ }) w w' h
  all_goals exact .go h

theorem extractTags_uniform (d : Desc) (ts : List Tag) : Uniform more p q (extractTags d ts) := by
  induction ts with
  | nil => exact go_uniform
  | cons t ts ih =>
    cases t
    case none => exact go_uniform
    all_goals exact (extractTag_uniform d _).andThen ih

theorem operandStage_uniform (d : Desc) : Uniform more p q (operandStage d) := (extractTags_uniform d d.tags).andThen complete_uniform

/-! The lookups. -/

theorem latchOpcode_uniform {k : Work → Flow} (hk : Uniform more p q k) (b : Byte) : Uniform more p q fun w => k (latchOpcode b w) :=
  hk.after fun d => { d with opb := some b }

theorem select_uniform {k : Work → Flow} (hk : Uniform more p q k) (ref : DescRef) (key : Nat) (d : Desc) :
    Uniform more p q fun w => k (select ref key d w) :=
  hk.after fun r => { r with opkey := some key, desc := some ref, szovr := d.szovr }

theorem finishRow_uniform (ref : DescRef) (key : Nat) (d : Desc) : Uniform more p q (finishRow ref key d) :=
  (select_uniform (modRmStage_uniform d) ref key d).andThen (operandStage_uniform d)

theorem finishMember_uniform (ref : DescRef) (key : Nat) (e : Desc) (digit : Nat) (d : Desc) :
    Uniform more p q (finishMember ref key e digit d) :=
  (select_uniform (modRmStage_uniform e) ref key e).andThen (select_uniform (operandStage_uniform d) _ _ d)

theorem resolveGroup_uniform (tg : Nat → Option Desc) (key : Nat) : Uniform more p q (resolveGroup tg key) := by
  intro w w' h
  cases hr : w.di.reg with
  | none =>
    have hr' : w'.di.reg = none := by rw [h.di, hr]
    simp only [resolveGroup, hr, hr']
    exact lookupFailed_uniform _ _ w w' h
  | some r =>
    have hr' : w'.di.reg = some r := by rw [h.di, hr]
    cases hd : tg (key * 256 + r.toNat) with
    | none =>
      rw [resolveGroup_absent hr hd, resolveGroup_absent hr' hd]
      exact lookupFailed_uniform _ _ w w' h
    | some d =>
      rw [resolveGroup_present hr hd, resolveGroup_present hr' hd]
      exact select_uniform go_uniform _ _ d w w' h

theorem dispatch_uniform (tg : Nat → Option Desc) (ref : DescRef) (key : Nat) (e : Desc) :
    Uniform more p q fun w => (modRmStage e (select ref key e w)).andThen (resolveGroup tg key) :=
  (select_uniform (modRmStage_uniform e) ref key e).andThen (resolveGroup_uniform tg key)

theorem secondLookup_uniform (t2 : Nat → Option Desc) (b : Byte) : Uniform more p q (secondLookup t2 b) := by
  unfold secondLookup
  cases t2 b.toNat with
  | none => exact lookupFailed_uniform _ _
  | some d => exact select_uniform go_uniform _ _ d

theorem afterLookup_uniform (tg : Nat → Option Desc) (ref : DescRef) (key : Nat) (found : Option Desc) :
    Uniform more p q (afterLookup tg ref key found) := by
  cases found with
  | none => exact lookupFailed_uniform key .unknownOpcode
  | some d =>
    refine (select_uniform (modRmStage_uniform d) ref key d).andThen
      (Uniform.ite (fun _ => Iff.rfl) ((resolveGroup_uniform tg key).andThen fun w w' h => ?_) (operandStage_uniform d))
    simp only [h.di]
    cases w.di.opkey.bind tg with
    | none => exact .go h
    | some m => exact operandStage_uniform m w w' h

theorem resolveOpcode_uniform (t : Tables) : Uniform more p q (resolveOpcode t) := by
  refine readByte_uniform fun b => latchOpcode_uniform
    (k := fun w => if b = 0x90 ∧ w.di.opszSeen = true then finishRow .xchg66 0x90 Ref.xchg66_90 w
      else if b = 0x0F then readByte w fun b2 w =>
        afterLookup (rowAt t.tg) (.t2 b2) (0x0F00 + b2.toNat) (rowAt t.t2 b2.toNat) (latchOpcode b2 w)
      else afterLookup (rowAt t.tg) (.t1 b) b.toNat (rowAt t.t1 b.toNat) w) ?_ b
  refine Uniform.ite (fun h => by rw [h.di]) (finishRow_uniform _ _ _) (Uniform.ite (fun _ => Iff.rfl) ?_ (afterLookup_uniform _ _ _ _))
  exact readByte_uniform fun b2 => latchOpcode_uniform (afterLookup_uniform _ _ _ _) b2

theorem recordPrefix_uniform {k : Work → Flow} (hk : Uniform more p q k) (bit : Nat) : Uniform more p q fun w => k (recordPrefix bit w) :=
  hk.after fun d => { d with
    pfx := d.pfx ||| (1#11 <<< bit)
    opszSeen := d.opszSeen || bit == 9
    adszSeen := d.adszSeen || bit == 10 }

/-- The scan steps back over the byte that ends it, so that it is uniform as a whole only. -/
theorem prefixScan_uniform (fuel : Nat) : Uniform more p q (prefixScan fuel) := by
  induction fuel with
  | zero => exact go_uniform
  | succ fuel ih =>
    intro w w' h
    cases hrem : w.ctx.remaining with
    | nil =>
      rw [prefixScan, prefixScan]
      exact h.readN_short (.inl rfl) (Nat.lt_succ_of_le (remaining_eq_nil.mp hrem)) _
    | cons b bs =>
      have hrem' : w'.ctx.remaining = b :: (bs ++ more) := by rw [h.remaining, hrem, List.cons_append]
      rw [prefixScan, prefixScan, readByte_cons hrem, readByte_cons hrem']
      cases hb : prefixBit b with
      | none => exact .go h
      | some bit => exact recordPrefix_uniform ih bit _ _ (h.ahead (bs := [b]) hrem)

end

/-- Over sources that come to the same bytes, both DECODEs go on or both have ended. -/
theorem Flow.Beside.state {p q : Nat} {f f' : Flow} (h : f.Beside [] p q f') :
    f.state.di = f'.state.di ∧ f.state.status = f'.state.status ∧ f.state.pos + q = f'.state.pos + p := by
  cases h with
  | go h => exact ⟨congrArg some h.di.symm, rfl, h.pos⟩
  | ended hdi hstatus hpos => exact ⟨hdi.symm, hstatus.symm, hpos⟩
  | short hmore _ => exact absurd rfl hmore

/-- Settles O33: the two DECODEs begin side by side, with as much fuel, and every stage keeps them so. -/
theorem decodeDeterministic : Obligations.DecodeDeterministic := by
  intro s s' t t' hrem hop had htables himm ht ht'
  obtain ⟨-, hstart, hforward, -, -, -⟩ := decodeOp_end ht
  obtain ⟨-, hstart', hforward', -, -, -⟩ := decodeOp_end ht'
  have hfuel : s'.srcLen - s'.pos = s.srcLen - s.pos := by
    have hlen := congrArg List.length hrem
    simpa only [State.remaining, Memory.bytes_length] using hlen.symm
  have hbegin : s.begin.Beside [] s.pos s'.pos s'.begin :=
    ⟨(hrem.symm.trans (List.append_nil _).symm), rfl, hop.symm, had.symm, himm.symm, Nat.add_comm _ _⟩
  have hstages := ((prefixScan_uniform (s.srcLen - s.pos + 1)).andThen (resolveOpcode_uniform s.tables.tables)) _ _ hbegin
  have hpipe (u : State) (hu : u.srcLen - u.pos = s.srcLen - s.pos) : pipeline s.tables.tables u
      = ((prefixScan (s.srcLen - s.pos + 1) u.begin).andThen (resolveOpcode s.tables.tables)).state := by
    rw [← hu]
    rfl
  rw [decodeOp_eq_pipeline, hpipe s rfl] at ht
  rw [decodeOp_eq_pipeline, ← htables, hpipe s' hfuel] at ht'
  obtain ⟨hdi, hstatus, hpos⟩ : t.di = t'.di ∧ t.status = t'.status ∧ t.pos + s'.pos = t'.pos + s.pos :=
    Host.Outcome.next.inj ht ▸ Host.Outcome.next.inj ht' ▸ hstages.state
  exact ⟨hdi, hstatus, hstart, hstart', by omega⟩

end Sys2Proof.Machine

/-! SUPPORT. A row over a source that ends inside an instruction, beside the same row over one that supplies it whole: what the second reads
beyond the first's end the first has no bytes for (40_decode_pipeline.md R198, 60_exceptions.md R603). -/

namespace Sys2Proof.Machine

open Sys2Proof.Claims

/-! Every row as one stage. -/

section
variable {more : List Byte} {p q : Nat}

theorem opcode1_uniform {k : Work → Flow} (hk : Uniform more p q k) (b : Byte) :
    Uniform more p q fun w => readByte w fun _ w => k (latchOpcode b w) :=
  readByte_uniform fun _ => latchOpcode_uniform hk b

/-- The escape, and a stage behind the second opcode byte. -/
theorem escaped_uniform {k : Byte → Work → Flow} (hk : ∀ b, Uniform more p q (k b)) (g : Byte → Byte) :
    Uniform more p q fun w => readByte w fun _ w => readByte (latchOpcode 0x0F w) fun b w => k b (latchOpcode (g b) w) :=
  readByte_uniform fun _ => latchOpcode_uniform (k := fun w => readByte w fun b w => k b (latchOpcode (g b) w))
    (readByte_uniform fun b => latchOpcode_uniform (hk b) (g b)) 0x0F

theorem opcode2_uniform {k : Work → Flow} (hk : Uniform more p q k) (b : Byte) :
    Uniform more p q fun w => readByte w fun _ w => readByte (latchOpcode 0x0F w) fun _ w => k (latchOpcode b w) :=
  escaped_uniform (k := fun _ => k) (fun _ => hk) fun _ => b

/-- A row's meaning is one stage from the entry of DECODE. -/
theorem exec_uniform (more : List Byte) (p q : Nat) (i : Instr) :
    ∃ k : Work → Flow, Uniform more p q k ∧ ∀ s, exec i s = .next (k (enter s)).state := by
  cases exec_form i with
  | prefixRow bit hbit h => exact ⟨_, readByte_uniform fun _ => recordPrefix_uniform go_uniform bit, fun s => congrFun h s⟩
  | escape h =>
    exact ⟨_, escaped_uniform (fun b => secondLookup_uniform _ b) id, fun s => (congrFun h s).trans (escapeRow_eq _ s)⟩
  | oneByteDispatch b e he h => exact ⟨_, opcode1_uniform (dispatch_uniform _ _ _ e) b, fun s => congrFun h s⟩
  | twoByteDispatch b e he h => exact ⟨_, opcode2_uniform (dispatch_uniform _ _ _ e) b, fun s => congrFun h s⟩
  | oneByte b d hd hg h => exact ⟨_, opcode1_uniform (finishRow_uniform _ _ d) b, fun s => congrFun h s⟩
  | twoByte b d hd hg h => exact ⟨_, opcode2_uniform (finishRow_uniform _ _ d) b, fun s => congrFun h s⟩
  | hardCoded b d hd hg h => exact ⟨_, opcode1_uniform (finishRow_uniform _ _ d) b, fun s => congrFun h s⟩
  | oneByteMember b e n d he hd hg h => exact ⟨_, opcode1_uniform (finishMember_uniform _ _ e n d) b, fun s => congrFun h s⟩
  | twoByteMember b e n d he hd hg h => exact ⟨_, opcode2_uniform (finishMember_uniform _ _ e n d) b, fun s => congrFun h s⟩
  | oneByteReg b d hd hg h =>
    exact ⟨_, readByte_uniform fun o => latchOpcode_uniform (finishRow_uniform (.t1 (regByte b (lowField o))) _ d) _,
      fun s => congrFun h s⟩
  | twoByteReg b d hd hg h =>
    exact ⟨_, escaped_uniform (fun o => finishRow_uniform (.t2 (regByte b (lowField o))) _ d) fun o => regByte b (lowField o),
      fun s => congrFun h s⟩

end

/-! A row over a whole instruction. -/

theorem prefixRows_encode {i : Instr} (hi : i ∈ prefixRows) (c : SizeCtx) {x : Insn} (hx : x.row = i) : (encode c x).length = 1 := by
  have hshape : ∀ i ∈ prefixRows, (i.shape.modRm = false ∧ i.shape.imm = none) ∧ ∀ r : BitVec 3, (i.opcodeAt r).length = 1 := by decide
  obtain ⟨⟨hmodRm, himm⟩, hopcode⟩ := hshape i hi
  rw [encode_eq, operandBytes_of_not_modRm (by simp [hx, hmodRm]), immBytes_of_none (by rw [hx, himm]), List.append_nil, hx, hopcode]

theorem dispatchRows_encode {p : RowSpec} (hp : p ∈ dispatchRows) (c : SizeCtx) {x : Insn} (hx : x.row = p.row) :
    encode c x = p.row.shape.opcode ++ encodeRm c.adsize x.reg x.rm := by
  have hshape : ∀ p ∈ dispatchRows, (p.row.shape.modRm = true ∧ p.row.shape.imm = none)
      ∧ ∀ r : BitVec 3, p.row.opcodeAt r = p.row.shape.opcode := by decide +kernel
  obtain ⟨⟨hmodRm, himm⟩, hopcode⟩ := hshape p hp
  rw [encode_eq, operandBytes_of_modRm (by rw [hx, hmodRm]), immBytes_of_none (by rw [hx, himm]), List.append_nil, hx, hopcode]

theorem resolveGroup_pos (tg : Nat → Option Desc) (key : Nat) (w : Work) : (resolveGroup tg key w).state.pos = w.ctx.pos := by
  unfold resolveGroup
  split
  · split <;> rfl
  · rfl

/-- Every row over the bytes of one of its instructions leaves POS behind them. -/
theorem exec_consumes {s : State} {x : Insn} (hwf : x.wf (sizesAt s) = true) (hsizes : SizesLegal s)
    (hsupplies : Supplies s (encode (sizesAt s) x)) :
    ∃ t, exec x.row s = .next t ∧ t.pos = s.pos + (encode (sizesAt s) x).length := by
  obtain ⟨⟨hregwf, hrowwf⟩, hrmwf, himmwf⟩ := Insn.wf_iff.mp hwf
  rcases row_cases x.row with hi | hesc | ⟨p, hp, hx⟩ | ⟨p, hp, hx⟩
  · obtain ⟨bit, hbit⟩ := exec_of_mem_prefixRows hi
    have hlen := prefixRows_encode hi (sizesAt s) rfl
    have hlt : s.pos < s.srcLen := by
      obtain ⟨rest, hrem⟩ := hsupplies
      by_contra hge
      rw [remaining_eq_nil.mpr (Nat.not_lt.mp hge)] at hrem
      simp [(List.append_eq_nil_iff.mp hrem.symm).1] at hlen
    refine ⟨_, (congrFun hbit s).trans (prefixRow_of_lt bit hlt), ?_⟩
    rw [hlen, ← enter_pos s]
    rfl
  · have hbytes : encode (sizesAt s) x = [0x0F, BitVec.ofNat 8 x.imm.toNat] := by
      rw [encode_eq, operandBytes_escape hesc, hesc, opcodeAt_escape]
      rfl
    rw [hbytes] at hsupplies ⊢
    obtain ⟨hpresent, hnull⟩ := escapeRow_holds.2 s _ hsupplies
    rw [hesc]
    cases hd : rowAt refT2 (BitVec.ofNat 8 x.imm.toNat).toNat with
    | none => exact ⟨_, hnull hd, rfl⟩
    | some d => exact ⟨_, hpresent d hd, rfl⟩
  · have hdispatch := dispatchRows_isDispatch p hp
    have hbytes := dispatchRows_encode hp (sizesAt s) hx.symm
    rw [hbytes] at hsupplies ⊢
    have hrm := (rmWf_iff_of_modRm (by rw [← hx, hdispatch.modRm])).mp hrmwf
    rw [← hx]
    refine ⟨_, dispatchRows_supplied hp hrm hsizes hsupplies, ?_⟩
    rw [resolveGroup_pos, rowReads_of_isDispatch hdispatch, List.length_append, Nat.add_assoc]
  · obtain ⟨-, hexec⟩ := allRows_decode p hp s x hx.symm hwf hsizes hsupplies
    exact ⟨_, hx ▸ hexec, rfl⟩

/-! The same context over a source that supplies the bytes. -/

/-- The context over a source that holds just these bytes from POS on. -/
def State.withSource (bs : List Byte) (s : State) : State :=
  { s with src := Memory.writeBytes [] s.pos bs, srcLen := s.pos + bs.length }

theorem withSource_remaining (bs : List Byte) (s : State) : (s.withSource bs).remaining = bs := by
  rw [State.remaining, State.withSource, Nat.add_sub_cancel_left]
  exact Memory.bytes_writeBytes rfl s.pos bs

theorem enter_withSource (bs : List Byte) (s : State) : enter (s.withSource bs) = ⟨(enter s).ctx.withSource bs, (enter s).di⟩ := by
  cases hs : s.status <;> cases hd : s.di <;> simp [enter, State.withSource, hs, hd]

theorem sizesAt_withSource (bs : List Byte) (s : State) : sizesAt (s.withSource bs) = sizesAt s := by
  rw [sizesAt, enter_withSource]
  rfl

/-- A context whose source ends inside some bytes, beside the one over a source that holds them all. -/
theorem enter_beside_withSource {bs : List Byte} {k : Nat} {s : State} (h : s.remaining = bs.take k) :
    (enter s).Beside (bs.drop k) 0 0 (enter (s.withSource bs)) := by
  refine ⟨?_, ?_, ?_, ?_, ?_, ?_⟩
  · rw [enter_remaining, enter_remaining, withSource_remaining, h, List.take_append_drop]
  all_goals rw [enter_withSource]
  all_goals rfl

theorem Flow.Beside.truncated_or_pos {more : List Byte} {f f' : Flow} (h : f.Beside more 0 0 f') :
    f.state.status = some .endOfStream ∨ f.state.pos = f'.state.pos := by
  cases h with
  | go h => exact .inr h.pos
  | ended _ _ hpos => exact .inr hpos
  | short _ hstatus => exact .inl hstatus

theorem exec_consumes_withSource {s : State} {x : Insn} (hwf : x.wf (sizesAt s) = true) (hsizes : SizesLegal s) :
    ∃ t, exec x.row (s.withSource (encode (sizesAt s) x)) = .next t ∧ t.pos = s.pos + (encode (sizesAt s) x).length := by
  have hsame := sizesAt_withSource (encode (sizesAt s) x) s
  have hwhole : Supplies (s.withSource (encode (sizesAt s) x)) (encode (sizesAt s) x) :=
    ⟨[], by rw [withSource_remaining, List.append_nil]⟩
  obtain ⟨t, ht, hpos⟩ := exec_consumes (s := s.withSource (encode (sizesAt s) x)) (by rwa [hsame]) hsizes (by rwa [hsame])
  exact ⟨t, ht, by rwa [hsame] at hpos⟩

/-- Settles O29: a row that did not want for bytes would have read the whole instruction, past the end of the source. -/
theorem truncatedRows : Obligations.TruncatedRows := by
  intro s x k hwf hsizes hk hpos hrem
  obtain ⟨stage, hstage, hexec⟩ := exec_uniform ((encode (sizesAt s) x).drop k) 0 0 x.row
  obtain ⟨hout, hstart, -, -, -, hforward, -, hinside⟩ := exec_rowEnd (hexec s)
  rw [enter_pos] at hforward hinside
  rw [enter_srcLen] at hinside
  have houtside := SameOutside.trans (enter_outside s) hout
  refine ⟨_, hexec s, ?_, hstart, hforward, houtside.srcLen ▸ hinside hpos, houtside⟩
  obtain ⟨t, ht, htpos⟩ := exec_consumes_withSource hwf hsizes
  have hbeside := (hstage _ _ (enter_beside_withSource hrem)).truncated_or_pos
  rw [Host.Outcome.next.inj ((hexec _).symm.trans ht), htpos] at hbeside
  refine hbeside.resolve_right fun hend => ?_
  have hlen := congrArg List.length hrem
  rw [State.remaining, Memory.bytes_length, List.length_take] at hlen
  have hle := hinside hpos
  omega

end Sys2Proof.Machine

/-! SUPPORT. What FORMAT leaves, and each operand renderer as a text: the names, numbers and memory expressions of 49_formatter.md. -/

namespace Sys2Proof.Machine

open Sys2Proof.Claims

/-! FORMAT as an operation. -/

/-- The operation ends in a next state of which the check holds. -/
def Result.leadsTo (r : Result) (check : State → Bool) : Bool :=
  match r with
  | .next s => check s
  | .fault _ => false
  | .refused _ => false

theorem Result.leadsTo_iff {r : Result} {check : State → Bool} :
    r.leadsTo check = true ↔ ∃ s, r = .next s ∧ check s = true := by
  cases r <;> simp [Result.leadsTo]

/-- RESET over the bytes, one DECODE that consumes them, and a FORMAT that gives the text. -/
def rendersAs (bs : List Byte) (text : String) : Bool :=
  Result.leadsTo (State.create { src := bs }) fun s => Result.leadsTo (step s) fun t =>
    t.status == some .ok && t.pos == bs.length && Result.leadsTo (formatOp t) fun u => u.reply == some ⟨.ok, some text⟩

theorem rendersAs_iff {bs : List Byte} {text : String} : rendersAs bs text = true ↔
    ∃ s t u : State, State.create { src := bs } = .next s ∧ step s = .next t ∧ t.status = some .ok ∧ t.pos = bs.length
      ∧ formatOp t = .next u ∧ u.reply = some ⟨.ok, some text⟩ := by
  simp only [rendersAs, Result.leadsTo_iff, Bool.and_eq_true, beq_iff_eq, and_assoc, exists_and_left]

/-- FORMAT sets marks and clears none (60_exceptions.md R611). -/
theorem formatOp_keepsMarks {s t : State} (h : formatOp s = .next t) :
    (s.refusalMark = true → t.refusalMark = true) ∧ (s.faultMark = true → t.faultMark = true) := by
  unfold formatOp at h
  split at h
  · split at h <;> cases h
    · exact ⟨id, id⟩
    · exact ⟨fun hm => by simp [hm], fun hm => by simp [hm]⟩
  · cases h
    exact ⟨fun _ => rfl, id⟩

theorem State.formatAllowed_iff (s : State) :
    s.formatAllowed = true ↔ s.status = some .ok ∧ s.fmtDefs = some (s.defOpsize, s.defAdsize) := by
  simp [State.formatAllowed]

theorem formatOp_of_not_allowed {s : State} (h : ¬s.formatAllowed = true) : formatOp s = .next (refuseRequest s) :=
  if_neg h

/-! Fields, widths and names that have a value. -/

theorem field_of_eq_some {α : Type} {f : Field} {o : Option α} {v : α} (h : o = some v) (k : α → Rendered) :
    field f o k = k v := by
  rw [h, field]

theorem withBytes_of_eq_some {c : SizeClass} {n : Nat} (h : sizeBytes c = some n) (k : Nat → Rendered) :
    withBytes c k = k n := by
  rw [withBytes, h]

/-- The names by size class are the names by width (10_state.md R42). -/
theorem gprNames_of_sizeBytes {c : SizeClass} {n : Nat} (h : sizeBytes c = some n) : gprNames c = registerNames n := by
  cases c <;> cases h <;> rfl

theorem registerNames_length {c : SizeClass} {n : Nat} (h : sizeBytes c = some n) : (registerNames n).length = 8 := by
  cases c <;> cases h <;> rfl

/-- The register at a place of a list of names, which places behind the list do not have (R525). -/
theorem ruleText_name (names : List String) (i : Nat) : ruleText ((names[i]?).map ("%" ++ ·)) =
    if i < names.length then .text ("%" ++ names.getD i "") else .fails .formatRuleGap := by
  split
  · rename_i hi
    rw [List.getD_eq_getElem _ _ hi, List.getElem?_eq_getElem hi, Option.map_some, ruleText]
  · rename_i hi
    rw [List.getElem?_eq_none (Nat.not_lt.mp hi), Option.map_none, ruleText]

/-- Every code has a name at a size with a byte count (R512). -/
theorem gpr_of_sizeBytes {s : SizeClass} {n : Nat} (h : sizeBytes s = some n) (c : BitVec 3) :
    gpr s c = .text ("%" ++ (registerNames n).getD c.toNat "") := by
  have hc : c.toNat < (registerNames n).length := by rw [registerNames_length h]; exact c.isLt
  rw [gpr, gprNames_of_sizeBytes h, ruleText_name, if_pos hc]

theorem repIds_contains_iff (n : Nat) :
    repIds.contains n = true ↔ n = 125 ∨ n = 127 ∨ n = 128 ∨ n = 123 ∨ n = 124 := by
  simp only [repIds, List.contains_iff_mem, List.mem_cons, List.not_mem_nil, or_false]
  omega

/-! Each class of operand tags under its renderer. -/

section
variable {d : Desc} {w : Work} {t : Tag}

theorem operandText_of_segment (ht : t ∈ [Tag.sw, .seg2, .fs, .gs]) : operandText d w t = field .reg w.di.reg segReg := by
  fin_cases ht <;> rfl

theorem operandText_of_register (ht : t ∈ [Tag.gb, .gw, .gv, .zb, .zv, .zd]) :
    operandText d w t = regOperand w (if t.sizeClass = .full ∨ t = .m then opsize d w else t.sizeClass) := by
  fin_cases ht <;> rfl

theorem operandText_of_rm (ht : t ∈ [Tag.eb, .ew, .ev, .m, .rd]) :
    operandText d w t = rmOperand d w (if t.sizeClass = .full ∨ t = .m then opsize d w else t.sizeClass) := by
  fin_cases ht <;> rfl

theorem immOperand_of_imm {v : Word} (h : w.di.imm = some v) (n : Nat) :
    immOperand w n = .text ("$" ++ hex (v.toNat % 2 ^ (8 * n))) :=
  field_of_eq_some h _

/-- With MOD = 3 the operand is the register RM (R523). -/
theorem rmOperand_of_register {size : SizeClass} {n : Nat} {c : BitVec 3} (hsize : sizeBytes size = some n)
    (hmod : w.di.mod = some 3) (hrm : w.di.rm = some c) :
    rmOperand d w size
      = .text ((if d.indirect = true then "*" else "") ++ ("%" ++ (registerNames n).getD c.toNat "")) := by
  rw [rmOperand, field_of_eq_some hmod, field_of_eq_some hrm, if_pos rfl, gpr_of_sizeBytes hsize, Rendered.andThen]
  split
  · rfl
  · rw [String.empty_append]

/-- A memory expression fails before its parts are read (R520). -/
theorem rmOperand_of_not_long {mod : BitVec 2} {rm : BitVec 3} (size : SizeClass) (hmod : w.di.mod = some mod) (hmem : mod ≠ 3)
    (hrm : w.di.rm = some rm) (had : adsize d w ≠ .long) : rmOperand d w size = .fails .unsupportedAddressing := by
  rw [rmOperand, field_of_eq_some hmod, field_of_eq_some hrm, if_neg hmem, memExpr, if_neg had, Rendered.andThen]

/-- A relative target of an address size with a byte count (R516). -/
theorem target_of_sizeBytes {n start : Nat} {v : Word} (hn : sizeBytes (adsize d w) = some n) (himm : w.di.imm = some v)
    (hstart : w.ctx.start = some start) (rel : Nat → Word → Int) :
    target d w rel
      = .text (hex (((w.ctx.vbase : Int) + start + (w.ctx.pos - start) + rel n v) % 2 ^ (8 * n)).toNat) := by
  rw [target, withBytes_of_eq_some hn, field_of_eq_some himm, targetText, field_of_eq_some hstart]
  rfl

end

/-! PAREN (R517, R519), with a SIB byte and without one. -/

theorem ite_text {p : Prop} [Decidable p] {a b : String} :
    (if p then Rendered.text a else .text b) = .text (if p then a else b) :=
  (apply_ite Rendered.text p a b).symm

/-- Two nested choices as one chain over their four cases. -/
theorem ite_ite_eq_chain {α : Type} {p q : Prop} [Decidable p] [Decidable q] (both first second neither : α) :
    (if p then (if q then both else first) else if q then second else neither)
      = if ¬p ∧ ¬q then neither else if ¬p ∧ q then second else if p ∧ ¬q then first else both := by
  by_cases hp : p <;> by_cases hq : q <;> simp [hp, hq]

section
variable {d : Desc} {di : Di} {mod : BitVec 2}

theorem paren_of_scale {index base : BitVec 3} (hscale : di.scale ≠ 0) (hindex : di.index = some index)
    (hbase : di.base = some base) (rm : BitVec 3) : paren d di mod rm = .text (
      if mod = 0 ∧ base = 5 then
        if index = 4 then (if d.id = 65 then "(,%eiz," ++ decimal di.scale ++ ")" else "")
        else "(," ++ name32 index ++ "," ++ decimal di.scale ++ ")"
      else if index = 4 then "(" ++ name32 base ++ ")"
      else "(" ++ name32 base ++ "," ++ name32 index ++ "," ++ decimal di.scale ++ ")") := by
  rw [paren, if_pos hscale, field_of_eq_some hindex, field_of_eq_some hbase]
  simp only [ite_text]
  rfl

theorem paren_of_no_scale (hscale : ¬di.scale ≠ 0) (rm : BitVec 3) :
    paren d di mod rm = .text (if mod = 0 ∧ rm = 5 then "" else "(" ++ name32 rm ++ ")") :=
  (if_neg hscale).trans ite_text

end

/-! The statements of 49_formatter.md. -/

/-- Settles O46: a FORMAT that renders writes its reply and the marks, a refused one its mark, and either sets marks only. -/
theorem formatWritesNothing : Obligations.FormatWritesNothing := fun _ _ h =>
  ⟨(formatOp_cases h).1, formatOp_keepsMarks h⟩

/-- Settles O51: with a SIB byte by whether there is a base and an index, without one by whether RM is a register. -/
theorem parenText : Obligations.ParenText := by
  intro d di mod rm index base hsib
  by_cases hscale : di.scale ≠ 0
  · obtain ⟨hindex, hbase⟩ := hsib hscale
    rw [paren_of_scale hscale hindex hbase, ite_ite_eq_chain]
    simp only [hscale, ne_eq, not_false_eq_true, not_not, true_and, if_true]
  · rw [paren_of_no_scale hscale]
    simp only [hscale, false_and, if_false]

/-- Settles O47: either cause makes FORMAT not allowed, and then it sets the refusal mark. -/
theorem formatRefused : Obligations.FormatRefused := by
  intro s hcause
  refine formatOp_of_not_allowed fun hallowed => ?_
  obtain ⟨hok, hdefs⟩ := s.formatAllowed_iff.mp hallowed
  exact hcause.elim (· hok) (· hdefs)

/-- Settles O48: the three operations, run on each of the seven byte strings. -/
theorem formatScenarios : Obligations.FormatScenarios := by
  have hruns : ∀ v ∈ scenarios, rendersAs v.1 v.2 = true := by decide +kernel
  exact fun v hv => rendersAs_iff.mp (hruns v hv)

/-- Settles O49: each tag masks IMM to the bytes of its own size, and four bytes mask nothing off. -/
theorem immediateText : Obligations.ImmediateText := by
  intro d w v himm
  have hmasked (n : Nat) := immOperand_of_imm himm n
  refine ⟨hmasked 1, hmasked 2, ?_, fun n hn => ⟨?_, ?_⟩⟩
  · calc operandText d w .il = .text ("$" ++ hex (v.toNat % 2 ^ 32)) := hmasked 4
      _ = .text ("$" ++ hex v.toNat) := by rw [Nat.mod_eq_of_lt v.isLt]
  · exact (withBytes_of_eq_some hn _).trans (hmasked n)
  · exact (withBytes_of_eq_some hn _).trans (hmasked n)

/-- Settles O50: the four tags name the segment register of code REG. -/
theorem segmentText : Obligations.SegmentText := by
  intro d w c t ht hreg
  rw [operandText_of_segment ht, field_of_eq_some hreg]
  exact ruleText_name segNames c.toNat

/-- Settles O52: the five tags render the register-or-memory operand, which is a memory expression here. -/
theorem sixteenBitAddressing : Obligations.SixteenBitAddressing := by
  intro d w mod rm t ht hmod hmem hrm had
  rw [operandText_of_rm ht, rmOperand_of_not_long _ hmod hmem hrm had]

/-- Settles O53: both tags render a target, JB from the low byte of IMM and JV from its bytes of the address size. -/
theorem relativeTarget : Obligations.RelativeTarget := by
  intro d w start n v hstart himm hn
  constructor
  · rw [operandText, target_of_sizeBytes hn himm hstart, BitVec.ofNat_toNat]
  · have hmask : BitVec.ofNat (8 * n) (v.toNat % 2 ^ (8 * n)) = BitVec.ofNat (8 * n) v.toNat :=
      BitVec.eq_of_toNat_eq (by simp)
    rw [operandText, target_of_sizeBytes hn himm hstart, hmask]

/-- Settles O54: the operations after which REPZ is written rep are the five of R504. -/
theorem prefixTexts : Obligations.PrefixTexts := by
  intro d pfx
  simp only [prefixText, repIds_contains_iff]

/-- Settles O58: a register operand is named by REG, and a register-or-memory operand with MOD = 3 by RM, at the size of the tag. -/
theorem registerText : Obligations.RegisterText := by
  rintro d w t c size n rfl hn
  refine ⟨fun ht hreg => ?_, fun ht hmod hrm => ?_⟩
  · rw [operandText_of_register ht, regOperand, field_of_eq_some hreg, gpr_of_sizeBytes hn]
  · rw [operandText_of_rm ht, rmOperand_of_register hn hmod hrm]

end Sys2Proof.Machine

/-! SUPPORT. What DECODE and the other host operations do to the two marks of 60_exceptions.md R611, over any tables. -/

namespace Sys2Proof.Machine

/-! The fault mark in DECODE. -/

/-- A stage from a context with the fault mark `m`: the mark is `m` still, or set by a STATUS of kind fault (R602, R611). -/
def Flow.Marks (m : Bool) (f : Flow) : Prop := f.state.faultMark = (m || f.state.status.any Status.isFault)

section
variable {m : Bool} {w : Work}

theorem go_marks (w : Work) : (Flow.go w).Marks w.ctx.faultMark := (Bool.or_false _).symm

theorem raise_marks (e : Status) (w : Work) : (raise e w).Marks w.ctx.faultMark := rfl

theorem complete_marks (w : Work) : (complete w).Marks w.ctx.faultMark := (Bool.or_false _).symm

theorem Flow.Marks.andThen {f : Flow} {k : Work → Flow} (hf : f.Marks m) (hk : ∀ w, (k w).Marks w.ctx.faultMark) :
    (f.andThen k).Marks m := by
  cases f with
  | go w =>
    have hw : w.ctx.faultMark = m := hf.trans (Bool.or_false m)
    exact hw ▸ hk w
  | ended s => exact hf

/-- A stage within a frame writes the fault mark only where it ends by raising. -/
theorem Flow.Frame.marks {n : Nat} {f : Flow} (h : Flow.Frame n w f) : f.Marks w.ctx.faultMark := by
  cases f with
  | go w' => exact Work.Frame.faultMark h ▸ go_marks w'
  | ended s =>
    obtain ⟨w', hframe, ⟨e, he⟩ | hc⟩ := h
    · rw [← he, ← hframe.faultMark]
      exact raise_marks e w'
    · rw [← hc, ← hframe.faultMark]
      exact complete_marks w'

theorem readByte_marks {k : Byte → Work → Flow} (hk : ∀ b w, (k b w).Marks w.ctx.faultMark) :
    (readByte w k).Marks w.ctx.faultMark :=
  (advance_frame 1 w).marks.andThen (hk _)

/-- The stages after a lookup (40_decode_pipeline.md R171 to R175, R182, R197). -/
theorem afterLookup_marks (tg : Nat → Option Desc) (ref : DescRef) (key : Nat) (found : Option Desc) (w : Work) :
    (afterLookup tg ref key found w).Marks w.ctx.faultMark := by
  cases found with
  | none => exact (lookupFailed_frame key .unknownOpcode w).marks
  | some d =>
    refine (modRmStage_frame d (select ref key d w)).marks.andThen fun w' => ?_
    split
    · refine (resolveGroup_frame tg key w').marks.andThen fun w'' => ?_
      split
      · exact (operandStage_frame _ w'').marks
      · exact go_marks w''
    · exact (operandStage_frame d w').marks

/-- ResolveOpcode() and what follows it (R167 to R170). -/
theorem resolveOpcode_marks (t : Tables) (w : Work) : (resolveOpcode t w).Marks w.ctx.faultMark := by
  refine readByte_marks fun b w' => ?_
  simp only []
  split
  · exact (finishRow_frame _ _ _ (latchOpcode b w')).marks
  split
  · exact readByte_marks (w := latchOpcode b w') fun b2 w'' => afterLookup_marks _ _ _ _ (latchOpcode b2 w'')
  · exact afterLookup_marks _ _ _ _ (latchOpcode b w')

/-- PrefixScan() (R164 to R166). -/
theorem prefixScan_marks (fuel : Nat) (w : Work) : (prefixScan fuel w).Marks w.ctx.faultMark := by
  induction fuel generalizing w with
  | zero => exact go_marks w
  | succ fuel ih =>
    refine readByte_marks fun b w' => ?_
    split
    · exact ih (recordPrefix _ w')
    · exact go_marks (stepBack w')

end

/-- A DECODE over any tables sets the fault mark exactly where its STATUS is of kind fault, and never clears it. -/
theorem decodeOp_faultMark {s t : State} (h : decodeOp s = .next t) :
    t.faultMark = (s.faultMark || t.status.any Status.isFault) := by
  rw [decodeOp_eq_pipeline] at h
  obtain rfl := Host.Outcome.next.inj h
  exact (prefixScan_marks _ s.begin).andThen (resolveOpcode_marks s.tables.tables)

/-- No status that DECODE can leave over well-formed tables is of kind fault (R602, R606). -/
theorem Status.not_isFault_of_ofDecode {e : Status} (h : e.ofDecode = true) : e.isFault = false := by
  cases e
  case formatRuleGap | configAssert => cases h
  all_goals rfl

/-! The marks in every step. -/

/-- No mark is cleared from one state to the other. -/
structure State.KeepsMarks (s t : State) : Prop where
  refusalMark : s.refusalMark = true → t.refusalMark = true
  faultMark : s.faultMark = true → t.faultMark = true

theorem decodeOp_keepsMarks {s t : State} (h : decodeOp s = .next t) : s.KeepsMarks t where
  refusalMark hm := (decodeOp_end h).outside.refusalMark.trans hm
  faultMark hm := by rw [decodeOp_faultMark h, hm, Bool.true_or]

theorem setDOp_keepsMarks (v : Nat) (s : State) : s.KeepsMarks (setDOp v s) := by
  unfold setDOp
  split
  · split <;> exact ⟨id, id⟩
  · exact ⟨fun _ => rfl, id⟩

theorem setPeOp_keepsMarks (v : Nat) (s : State) : s.KeepsMarks (setPeOp v s) := by
  unfold setPeOp
  split
  · split <;> exact ⟨id, id⟩
  · exact ⟨fun _ => rfl, id⟩

theorem setPosOp_keepsMarks (p : Nat) (s : State) : s.KeepsMarks (setPosOp p s) := by
  unfold setPosOp
  split
  · exact ⟨id, id⟩
  · exact ⟨fun _ => rfl, id⟩

theorem sourceByteOp_keepsMarks (a : Nat) (b : Byte) (s : State) : s.KeepsMarks (sourceByteOp a b s) := by
  unfold sourceByteOp
  split
  · exact ⟨id, id⟩
  · exact ⟨fun _ => rfl, id⟩

theorem runRequest_keepsMarks {r : Request} {s t : State} (h : runRequest r s = .next t) : s.KeepsMarks t := by
  cases r with
  | decode => exact decodeOp_keepsMarks h
  | setD v => cases h; exact setDOp_keepsMarks v s
  | setPe v => cases h; exact setPeOp_keepsMarks v s
  | setPos p => cases h; exact setPosOp_keepsMarks p s
  | format =>
    obtain ⟨hrefusal, hfault⟩ := formatOp_keepsMarks h
    exact ⟨hrefusal, hfault⟩
  | sourceByte a b => cases h; exact sourceByteOp_keepsMarks a b s

theorem step_keepsMarks {s t : State} (h : step s = .next t) : s.KeepsMarks t := by
  unfold step runNext at h
  split at h
  · exact decodeOp_keepsMarks h
  · obtain ⟨hrefusal, hfault⟩ := runRequest_keepsMarks h
    exact ⟨hrefusal, hfault⟩

/-- A faulted state is never final (R611). -/
theorem final_of_faultMark {s : State} (h : s.faultMark = true) : s.final = false := by
  unfold State.final
  split
  · simp [h]
  · rfl

/-! Setters outside their ranges. -/

theorem setDOp_of_gt {v : Nat} (h : 1 < v) (s : State) : setDOp v s = refuseSetter s := if_neg (Nat.not_le.mpr h)

theorem setPeOp_of_gt {v : Nat} (h : 1 < v) (s : State) : setPeOp v s = refuseSetter s := if_neg (Nat.not_le.mpr h)

theorem setPosOp_of_gt {p : Nat} {s : State} (h : s.srcLen < p) : setPosOp p s = refuseSetter s := if_neg (Nat.not_le.mpr h)

/-! The statements of 60_exceptions.md. -/

/-- Settles O7: over legal defaults every read of a well-formed descriptor has a width and every addressing form an address size, so the
pipeline ends in a status that DECODE can leave, and CONFIG_ASSERT is none. -/
theorem configAssertUnreachable : Obligations.ConfigAssertUnreachable := by
  intro s t hinv hwf hassert
  obtain ⟨e, he, hofDecode⟩ := (pipeline_endsSound hwf hinv.sizesLegal).status
  obtain rfl : e = .configAssert := Option.some.inj (he.symm.trans hassert)
  cases hofDecode

/-- Settles O34: DECODE writes no refusal mark, and from the invariant it ends in no status of kind fault. -/
theorem decodeSetsNoMark : Obligations.DecodeSetsNoMark := by
  intro s t hinv _ h
  have hnofault : t.status.any Status.isFault = false := by
    cases hstatus : t.status with
    | none => rfl
    | some e => exact Status.not_isFault_of_ofDecode ((decodeOp_inv hinv h).decodeStatus e hstatus)
  exact ⟨by rw [decodeOp_faultMark h, hnofault, Bool.or_false], (decodeOp_end h).outside.refusalMark⟩

/-- Settles O43: a setter above its range and a FORMAT that may not run only set the refusal mark, and no host operation clears it. -/
theorem hostContractRefusals : Obligations.HostContractRefusals := by
  refine ⟨fun v s hv => ⟨none, ?_⟩, fun v s hv => ⟨none, ?_⟩, fun p s hp => ⟨none, ?_⟩, formatRefused, fun s t h => ?_⟩
  · exact congrArg Host.Outcome.next (setDOp_of_gt hv s)
  · exact congrArg Host.Outcome.next (setPeOp_of_gt hv s)
  · exact congrArg Host.Outcome.next (setPosOp_of_gt hp)
  · exact (step_keepsMarks h).refusalMark

/-- Settles O44: no host operation clears the fault mark, and a state that holds it is not final. -/
theorem faultMarkStays : Obligations.FaultMarkStays := by
  intro s t h hmark
  have hmark' := (step_keepsMarks h).faultMark hmark
  exact ⟨hmark', final_of_faultMark hmark'⟩

end Sys2Proof.Machine

/-! SUPPORT. RESET's three answers, and a context with nothing decoded yet (70_reset_and_hazards.md R701 to R706). -/

namespace Sys2Proof.Machine

/-! RESET, one equation per answer. -/

theorem State.create_of_illFormed {p : ResetParams} (h : p.optable.tables.wf = false) :
    State.create p = .refused .illFormedTable := by
  rw [State.create, if_neg (ne_true_of_eq_false h)]

theorem State.create_of_outOfRange {p : ResetParams} (hwf : p.optable.tables.wf = true)
    (h : p.src.length < p.initPos ∨ 1 < p.initPe ∨ 1 < p.initD) : State.create p = .refused .resetArgument := by
  rw [State.create, if_pos hwf, if_neg (by omega)]

theorem State.create_of_inRange {p : ResetParams} (hwf : p.optable.tables.wf = true) (hpos : p.initPos ≤ p.src.length)
    (hpe : p.initPe ≤ 1) (hd : p.initD ≤ 1) : State.create p = .next p.context := by
  rw [State.create, if_pos hwf, if_pos ⟨hpos, hpe, hd⟩]

/-! The context it creates. -/

/-- Both default sizes follow from INIT_PE and INIT_D (R703). -/
theorem ResetParams.defaultSize_init (p : ResetParams) : defaultSize (p.initPe == 1) (p.initD == 1) =
    if p.initPe = 1 ∧ p.initD = 1 then .long else .word := by
  simp only [defaultSize_eq, beq_iff_eq]

theorem ResetParams.context_bytes (p : ResetParams) : p.context.src.bytes 0 p.context.srcLen = p.src :=
  Memory.bytes_writeBytes (m := []) rfl 0 p.src

/-- Without a record there is nothing to render (10_state.md R66). -/
theorem State.render_of_di_eq_none {s : State} (h : s.di = none) : s.render = .noValue .record := by
  rw [State.render, h, field]

/-- FORMAT is refused while STATUS holds no value (49_formatter.md R501). -/
theorem formatOp_of_status_eq_none {s : State} (h : s.status = none) : formatOp s = .next { s with refusalMark := true } :=
  formatRefused s (.inl (by simp [h]))

/-! The statements of 70_reset_and_hazards.md. -/

/-- Settles O2: the three clauses are the three answers of RESET; in the last, the context's fields are the arguments, its source reads as
written, and FORMAT and a read of the record find nothing decoded. -/
theorem resetCreates : Obligations.ResetCreates := by
  intro p
  refine ⟨State.create_of_illFormed, State.create_of_outOfRange, fun hwf hpos hpe hd => ?_⟩
  have hformat : formatOp p.context = .next { p.context with refusalMark := true } := formatOp_of_status_eq_none rfl
  have hrender : p.context.render = .noValue .record := State.render_of_di_eq_none rfl
  exact ⟨p.context, State.create_of_inRange hwf hpos hpe hd, rfl, rfl, rfl, p.defaultSize_init, p.defaultSize_init,
    rfl, rfl, rfl, rfl, rfl, rfl, rfl, p.context_bytes, hformat, hrender⟩

/-- Settles O1: REF is well-formed and the default arguments are in range, so RESET creates its context, which is the reset state field by
field; nothing is decoded there. -/
theorem resetDefaults : Obligations.ResetDefaults := by
  have hcreate : State.create { src := [] } = .next State.reset :=
    State.create_of_inRange refTables_wf (Nat.le_refl 0) (Nat.le_refl 1) (Nat.le_refl 1)
  exact ⟨hcreate, rfl, rfl, rfl, rfl, rfl, rfl, rfl, rfl, State.render_of_di_eq_none rfl, formatOp_of_status_eq_none rfl⟩

end Sys2Proof.Machine

/-! SUPPORT. The reset state is one of the contexts RESET creates (70_reset_and_hazards.md R701 to R706). -/

namespace Sys2Proof.Machine

/-- Settles O4: RESET with the default arguments creates the reset state, and every context it creates satisfies the invariant. -/
theorem resetInv : Obligations.ResetInv := by
  obtain ⟨hcreate, -⟩ := resetDefaults
  exact createdContextsInv { src := [] } State.reset hcreate

end Sys2Proof.Machine
